-- ==== Sys2Proof/Word.lean ====
section
/-!
DEFINITION. The word types and the finite names of the block: channels, registers, widths, and the fields of
the two kinds of tag. Bit numbering as 00_scope.md R13: bit 0 is the least significant bit.
-/

namespace Sys2Proof

/-- One byte. -/
abbrev Byte := BitVec 8
/-- A 32-bit word (00_scope.md R10). -/
abbrev Word := BitVec 32
/-- A quadword, 16 bytes (00_scope.md R8). -/
abbrev Quad := BitVec 128

/-- The ten DMA channels in the order of 00_scope.md R8, numbered 0 to 9. -/
inductive Ch where
  | vif0 | vif1 | gif | ipu0 | ipu1 | sif0 | sif1 | sif2 | spr0 | spr1
  deriving DecidableEq, Repr, Inhabited

/-- The channel's number c (10_state.md R20). -/
def Ch.num : Ch → Nat
  | .vif0 => 0 | .vif1 => 1 | .gif => 2 | .ipu0 => 3 | .ipu1 => 4
  | .sif0 => 5 | .sif1 => 6 | .sif2 => 7 | .spr0 => 8 | .spr1 => 9

/-- The channels in ascending order. -/
def Ch.all : List Ch :=
  [.vif0, .vif1, .gif, .ipu0, .ipu1, .sif0, .sif1, .sif2, .spr0, .spr1]

/-- The channels whose engine is in scope, c in 3..9 (00_scope.md R4, R5). -/
def Ch.inScope : Ch → Bool
  | .vif0 | .vif1 | .gif => false
  | _ => true

/-- The three SIF channels (10_state.md R50). -/
inductive Sif where
  | sif0 | sif1 | sif2
  deriving DecidableEq, Repr, Inhabited

/-- The DMA channel of a SIF channel. -/
def Sif.toCh : Sif → Ch
  | .sif0 => .sif0 | .sif1 => .sif1 | .sif2 => .sif2

/-- The channels that fetch source-chain tags (30_encoding.md R154). -/
inductive SrcCh where
  | ipu1 | sif1 | spr1
  deriving DecidableEq, Repr, Inhabited

def SrcCh.toCh : SrcCh → Ch
  | .ipu1 => .ipu1 | .sif1 => .sif1 | .spr1 => .spr1

/-- The channels that read destination-chain tags (30_encoding.md R154). -/
inductive DstCh where
  | sif0 | spr0
  deriving DecidableEq, Repr, Inhabited

def DstCh.toCh : DstCh → Ch
  | .sif0 => .sif0 | .spr0 => .spr0

/-- The seven channel registers (10_state.md R20). -/
inductive ChanReg where
  | chcr | madr | qwc | tadr | asr0 | asr1 | sadr
  deriving DecidableEq, Repr, Inhabited

/-- The channel registers in the order of 30_encoding.md R181. -/
def ChanReg.all : List ChanReg := [.chcr, .madr, .qwc, .tadr, .asr0, .asr1, .sadr]

/-- The nine global registers (30_encoding.md R182). -/
inductive GlobalReg where
  | ctrl | stat | pcr | sqwc | rbsr | rbor | stadr | enabler | enablew
  deriving DecidableEq, Repr, Inhabited

/-- The global registers in the order of 30_encoding.md R182. -/
def GlobalReg.all : List GlobalReg :=
  [.ctrl, .stat, .pcr, .sqwc, .rbsr, .rbor, .stadr, .enabler, .enablew]

/-- Access widths of the host (20_memory.md R112). -/
inductive Width where
  | w8 | w16 | w32 | w64 | w128
  deriving DecidableEq, Repr, Inhabited

/-- The width in bytes. -/
def Width.bytes : Width → Nat
  | .w8 => 1 | .w16 => 2 | .w32 => 4 | .w64 => 8 | .w128 => 16

/-- The fields of a DMA tag quadword other than its ID (30_encoding.md R150, R152). Every bit of the quadword
is kept, the reserved ones too. -/
structure Tag where
  /-- tag[15:0], the quadword count Q. -/
  qwc : BitVec 16
  /-- tag[25:16], reserved; cached in CHCR.TAG. -/
  rsv : BitVec 10
  /-- tag[27:26], PCE. -/
  pce : BitVec 2
  /-- tag[31], IRQ. -/
  irq : BitVec 1
  /-- tag[63:32], the operand A: ADDR in bits 30:0, SPR in bit 31. -/
  a : Word
  /-- Bits 127:64 of the quadword; the walker does not read them, SIF1 and SPR1 forward them under TTE. -/
  hi : BitVec 64
  deriving DecidableEq, Repr, Inhabited

/-- The four words of an IOP tag by field (30_encoding.md R155). -/
structure IopTag where
  /-- u0[23:0], the IOP RAM address. -/
  iaddr : BitVec 24
  /-- u0[29:24], ignored. -/
  ign0 : BitVec 6
  /-- u0[30], ERT. -/
  ert : BitVec 1
  /-- u0[31], IIRQ. -/
  iirq : BitVec 1
  /-- u1[19:0], WORDS. -/
  words : BitVec 20
  /-- u1[31:20], ignored. -/
  ign1 : BitVec 12
  /-- u2, the low word of the forwarded EE tag (SIF0). -/
  u2 : Word
  /-- u3, the high word of the forwarded EE tag (SIF0). -/
  u3 : Word
  deriving DecidableEq, Repr, Inhabited

end Sys2Proof
end

