-- ==== Sys2Proof/Config.lean ====
section
/-!
DEFINITION. What an implementation fixes (the parameters of 00_scope.md R9 and the quirks of R12), what the outside
world can do (the agents' moves of R7), and the free values: opaque constants with no body, so that nothing can be
proved about which value they give.
-/

namespace Sys2Proof

/-- The named parameters of 00_scope.md R9 and the quirks of R12 that are plain numbers and Booleans. State
carries them and no step changes them, so a statement holds for every value of them (log 5). -/
structure Params where
  ramSize      : Nat
  sprSize      : Nat
  iopRamSize   : Nat
  sifFifoWords : Nat
  ipuFifoQw    : Nat
  vtlbPageBits : Nat
  vaddrBits    : Nat
  /-- `Q_MOD3_AS_CHAIN` -/
  mod3AsChain  : Bool
  /-- `Q_SIF0_IOP_CYCLES_HALF` -/
  sif0IopCyclesHalf : Bool
  /-- `Q_NORMAL_QWC0_FULL` -/
  normalQwc0Full : Bool
  deriving DecidableEq, Repr

/-- The spec's defaults (00_scope.md R9, R12). -/
def Params.default : Params where
  ramSize      := 0x02000000
  sprSize      := 0x4000
  iopRamSize   := 0x00200000
  sifFifoWords := 128
  ipuFifoQw    := 8
  vtlbPageBits := 12
  vaddrBits    := 32
  mod3AsChain  := true
  sif0IopCyclesHalf := true
  normalQwc0Full := true

/-- The constraints the spec puts on the parameters: a SIF FIFO holds a quadword (43_fifo_sif.md R471), a page holds the
widest access (44_vtlb.md R493), and a page number is a part of the guest address (44_vtlb.md R480). -/
abbrev Params.valid (p : Params) : Prop :=
  4 ≤ p.sifFifoWords ∧ 4 ≤ p.vtlbPageBits ∧ p.vtlbPageBits ≤ p.vaddrBits

/-- The backing memories (10_state.md R60); `extra i` is the i-th region of `DmaExtraRegions`. -/
inductive Region where
  | ram | spr | iopRam | extra (i : Nat)
  deriving DecidableEq, Repr, Inhabited

/-- A handler of the table `Handlers` (10_state.md R72): the DMAC register model, an external handler by its index, or
the MMU model's default handler (44_vtlb.md R482), which is external too. -/
inductive HandlerId where
  | dmac | external (n : Nat) | default
  deriving DecidableEq, Repr, Inhabited

/-- A page-map entry, exactly one of a direct pointer and a handler call (10_state.md R70, 44_vtlb.md R481). -/
inductive VtlbEntry where
  | direct (r : Region) (off : Nat)
  | handler (h : HandlerId) (pbase : Word)
  deriving DecidableEq, Repr, Inhabited

/-- What the external pump of a channel 0..2 may do in one step (00_scope.md R11): write one of its channel's
registers, set `STAT.CIS[c]` or clear `CHCR.STR`, and nothing else. -/
inductive ExtOp where
  | writeReg (r : ChanReg) (v : Word)
  | setCis
  | clearStr
  deriving DecidableEq, Repr, Inhabited

/-- One move of one agent (00_scope.md R7). -/
inductive Action where
  /-- Host port: MMIO write of width `w` (40_registers.md R200, R202). -/
  | hostWrite (w : Width) (addr : Word) (v : Quad)
  /-- Host port: MMIO read of width `w` (40_registers.md R201, R202). -/
  | hostRead (w : Width) (addr : Word)
  /-- Host port: a call of the dispatcher with selector `sel` (44_vtlb.md R491, R492). -/
  | dispatch (sel : BitVec 5) (va : Word) (v : Quad)
  /-- Host port: the same access through the interpreted lookup (44_vtlb.md R485, R507, R512). `sign` counts only for a
  load of 8, 16 or 32 bits: the other triples with `sign` are no dispatchers (30_encoding.md R190), and the model serves
  them as if `sign` were false (log 26). -/
  | interpret (store : Bool) (w : Width) (sign : Bool) (va : Word) (v : Quad)
  /-- Host port: `vtlb_dynarec_init()` (44_vtlb.md R505). -/
  | vtlbInit
  /-- The EE engine of channel `c` takes its step; `n` is the draw of 42_channel_engines.md R325. -/
  | engine (c : Ch) (n : Nat)
  /-- The IOP half of SIF channel `s` takes its step; `n` is its chunk draw (43_fifo_sif.md R425, R435). -/
  | iopHalf (s : Sif) (n : Nat)
  /-- The scheduler fires `ev[c]` (60_exceptions.md R606, R610). -/
  | fire (c : Ch)
  /-- The scheduler fires `iopEv[s]` (60_exceptions.md R612). -/
  | fireIop (s : Sif)
  /-- The IOP DMAC starts an IOP half (43_fifo_sif.md R411). -/
  | iopStart (s : Sif) (madr tadr : Word) (words : Nat)
  /-- The IPU pushes a quadword into its output FIFO (10_state.md R56). -/
  | ipuPush (q : Quad)
  /-- The IPU pops a quadword from its input FIFO (10_state.md R55). -/
  | ipuPop
  /-- The IPU writes `DataRequested` (10_state.md R57). -/
  | ipuRequest (b : Bool)
  /-- The external pump of a channel 0..2 (00_scope.md R11). -/
  | extPump (c : Ch) (op : ExtOp)
  /-- The deferred event of a channel 0..2 is requested from outside the block: `CPU_INT(c, d)` (10_state.md R43,
  60_exceptions.md R610; log 15). -/
  | extSchedule (c : Ch) (d : Nat)
  /-- An external MFIFO drain sets `STAT.MEIS` (42_channel_engines.md R361). -/
  | mfifoEmpty
  /-- The MMU model writes a page-map entry (44_vtlb.md R486). -/
  | mmuMap (page : Nat) (e : VtlbEntry)
  /-- The IOP CPU stores to IOP RAM (60_exceptions.md R641). -/
  | iopCpuStore (w : Width) (addr : Word) (v : Quad)
  /-- The emulator resets the block (70_reset_and_hazards.md R700, R701). -/
  | reset
  deriving DecidableEq, Repr, Inhabited

/-- A draw of a word the spec leaves unspecified: a popped ASR register (41_tag_walker.md R271), the pad words
p0, p1 (43_fifo_sif.md R427), a junk word (R426). The argument counts the draws taken (log 2). -/
opaque Config.freeWord : Nat → Word

/-- The agent that moves when the agenda names none: the interleaving the spec leaves open (20_memory.md R120),
with the agent's own open choices (log 1). -/
opaque Config.freeAction : Nat → Action

/-- `CostEE(c, n)`, timing-only (42_channel_engines.md R385; log 10). -/
opaque Config.costEE : Ch → Nat → Nat

/-- `CostIOP(s, words)`, timing-only (43_fifo_sif.md R416; log 10). -/
opaque Config.costIOP : Sif → Nat → Nat

/-- `VtlbInitialMap`, which has an entry for every page (10_state.md R70; log 11). -/
opaque Config.vtlbInitialMap : Nat → VtlbEntry

/-- What handler `h`, which is not the DMAC's, returns for a read of width `w` at `paddr`; the last argument counts the
draws, so that two reads may differ (44_vtlb.md R491; log 12). -/
opaque Config.handlerRead : (h : HandlerId) → (w : Width) → (paddr : Word) → Nat → Quad

end Sys2Proof
end

