-- ==== Sys2Proof/Syntax.lean ====
section
/-!
DEFINITION. The instructions of the block, one constructor per row of spec/opcode_table.json (30_encoding.md: the
DMA tags, the IOP tags, the MMIO register operations and the VTLB dispatchers), and the constructor families as
functions of their channel and register.
-/

namespace Sys2Proof

/-- One constructor per row of the opcode table, in the table's order. A tag carries the channel whose engine
reads it (30_encoding.md R154); a register write carries the 32-bit value; a dispatcher call carries the guest
address and, for a store, the value whose low bits are used (44_vtlb.md R492). -/
inductive Instr where
  /-- `REFE`, source chain (30_encoding.md R151). -/
  | srcRefe (c : SrcCh) (t : Tag)
  /-- `CNT`, source chain (30_encoding.md R151). -/
  | srcCnt (c : SrcCh) (t : Tag)
  /-- `NEXT`, source chain (30_encoding.md R151). -/
  | srcNext (c : SrcCh) (t : Tag)
  /-- `REF`, source chain (30_encoding.md R151). -/
  | srcRef (c : SrcCh) (t : Tag)
  /-- `REFS`, source chain (30_encoding.md R151). -/
  | srcRefs (c : SrcCh) (t : Tag)
  /-- `CALL`, source chain (30_encoding.md R151). -/
  | srcCall (c : SrcCh) (t : Tag)
  /-- `RET`, source chain (30_encoding.md R151). -/
  | srcRet (c : SrcCh) (t : Tag)
  /-- `END`, source chain (30_encoding.md R151). -/
  | srcEnd (c : SrcCh) (t : Tag)
  /-- `dCNTS`, destination chain (30_encoding.md R153). -/
  | dstCnts (c : DstCh) (t : Tag)
  /-- `dCNT`, destination chain (30_encoding.md R153). -/
  | dstCnt (c : DstCh) (t : Tag)
  /-- `dRSV2`, destination chain (30_encoding.md R153). -/
  | dstRsv2 (c : DstCh) (t : Tag)
  /-- `dRSV3`, destination chain (30_encoding.md R153). -/
  | dstRsv3 (c : DstCh) (t : Tag)
  /-- `dRSV4`, destination chain (30_encoding.md R153). -/
  | dstRsv4 (c : DstCh) (t : Tag)
  /-- `dRSV5`, destination chain (30_encoding.md R153). -/
  | dstRsv5 (c : DstCh) (t : Tag)
  /-- `dRSV6`, destination chain (30_encoding.md R153). -/
  | dstRsv6 (c : DstCh) (t : Tag)
  /-- `dEND`, destination chain (30_encoding.md R153). -/
  | dstEnd (c : DstCh) (t : Tag)
  /-- `IOPTAG(SIF0)` (30_encoding.md R155). -/
  | iopTagSif0 (t : IopTag)
  /-- `IOPTAG(SIF1)` (30_encoding.md R155). -/
  | iopTagSif1 (t : IopTag)
  -- the registers of channel 0 (VIF0): 30_encoding.md R180, R181
  | swD0Chcr (v : Word)
  | lwD0Chcr
  | swD0Madr (v : Word)
  | lwD0Madr
  | swD0Qwc (v : Word)
  | lwD0Qwc
  | swD0Tadr (v : Word)
  | lwD0Tadr
  | swD0Asr0 (v : Word)
  | lwD0Asr0
  | swD0Asr1 (v : Word)
  | lwD0Asr1
  | swD0Sadr (v : Word)
  | lwD0Sadr
  -- the registers of channel 1 (VIF1): 30_encoding.md R180, R181
  | swD1Chcr (v : Word)
  | lwD1Chcr
  | swD1Madr (v : Word)
  | lwD1Madr
  | swD1Qwc (v : Word)
  | lwD1Qwc
  | swD1Tadr (v : Word)
  | lwD1Tadr
  | swD1Asr0 (v : Word)
  | lwD1Asr0
  | swD1Asr1 (v : Word)
  | lwD1Asr1
  | swD1Sadr (v : Word)
  | lwD1Sadr
  -- the registers of channel 2 (GIF): 30_encoding.md R180, R181
  | swD2Chcr (v : Word)
  | lwD2Chcr
  | swD2Madr (v : Word)
  | lwD2Madr
  | swD2Qwc (v : Word)
  | lwD2Qwc
  | swD2Tadr (v : Word)
  | lwD2Tadr
  | swD2Asr0 (v : Word)
  | lwD2Asr0
  | swD2Asr1 (v : Word)
  | lwD2Asr1
  | swD2Sadr (v : Word)
  | lwD2Sadr
  -- the registers of channel 3 (IPU0): 30_encoding.md R180, R181
  | swD3Chcr (v : Word)
  | lwD3Chcr
  | swD3Madr (v : Word)
  | lwD3Madr
  | swD3Qwc (v : Word)
  | lwD3Qwc
  | swD3Tadr (v : Word)
  | lwD3Tadr
  | swD3Asr0 (v : Word)
  | lwD3Asr0
  | swD3Asr1 (v : Word)
  | lwD3Asr1
  | swD3Sadr (v : Word)
  | lwD3Sadr
  -- the registers of channel 4 (IPU1): 30_encoding.md R180, R181
  | swD4Chcr (v : Word)
  | lwD4Chcr
  | swD4Madr (v : Word)
  | lwD4Madr
  | swD4Qwc (v : Word)
  | lwD4Qwc
  | swD4Tadr (v : Word)
  | lwD4Tadr
  | swD4Asr0 (v : Word)
  | lwD4Asr0
  | swD4Asr1 (v : Word)
  | lwD4Asr1
  | swD4Sadr (v : Word)
  | lwD4Sadr
  -- the registers of channel 5 (SIF0): 30_encoding.md R180, R181
  | swD5Chcr (v : Word)
  | lwD5Chcr
  | swD5Madr (v : Word)
  | lwD5Madr
  | swD5Qwc (v : Word)
  | lwD5Qwc
  | swD5Tadr (v : Word)
  | lwD5Tadr
  | swD5Asr0 (v : Word)
  | lwD5Asr0
  | swD5Asr1 (v : Word)
  | lwD5Asr1
  | swD5Sadr (v : Word)
  | lwD5Sadr
  -- the registers of channel 6 (SIF1): 30_encoding.md R180, R181
  | swD6Chcr (v : Word)
  | lwD6Chcr
  | swD6Madr (v : Word)
  | lwD6Madr
  | swD6Qwc (v : Word)
  | lwD6Qwc
  | swD6Tadr (v : Word)
  | lwD6Tadr
  | swD6Asr0 (v : Word)
  | lwD6Asr0
  | swD6Asr1 (v : Word)
  | lwD6Asr1
  | swD6Sadr (v : Word)
  | lwD6Sadr
  -- the registers of channel 7 (SIF2): 30_encoding.md R180, R181
  | swD7Chcr (v : Word)
  | lwD7Chcr
  | swD7Madr (v : Word)
  | lwD7Madr
  | swD7Qwc (v : Word)
  | lwD7Qwc
  | swD7Tadr (v : Word)
  | lwD7Tadr
  | swD7Asr0 (v : Word)
  | lwD7Asr0
  | swD7Asr1 (v : Word)
  | lwD7Asr1
  | swD7Sadr (v : Word)
  | lwD7Sadr
  -- the registers of channel 8 (SPR0): 30_encoding.md R180, R181
  | swD8Chcr (v : Word)
  | lwD8Chcr
  | swD8Madr (v : Word)
  | lwD8Madr
  | swD8Qwc (v : Word)
  | lwD8Qwc
  | swD8Tadr (v : Word)
  | lwD8Tadr
  | swD8Asr0 (v : Word)
  | lwD8Asr0
  | swD8Asr1 (v : Word)
  | lwD8Asr1
  | swD8Sadr (v : Word)
  | lwD8Sadr
  -- the registers of channel 9 (SPR1): 30_encoding.md R180, R181
  | swD9Chcr (v : Word)
  | lwD9Chcr
  | swD9Madr (v : Word)
  | lwD9Madr
  | swD9Qwc (v : Word)
  | lwD9Qwc
  | swD9Tadr (v : Word)
  | lwD9Tadr
  | swD9Asr0 (v : Word)
  | lwD9Asr0
  | swD9Asr1 (v : Word)
  | lwD9Asr1
  | swD9Sadr (v : Word)
  | lwD9Sadr
  -- the global registers: 30_encoding.md R182
  | swCtrl (v : Word)
  | lwCtrl
  | swStat (v : Word)
  | lwStat
  | swPcr (v : Word)
  | lwPcr
  | swSqwc (v : Word)
  | lwSqwc
  | swRbsr (v : Word)
  | lwRbsr
  | swRbor (v : Word)
  | lwRbor
  | swStadr (v : Word)
  | lwStadr
  | swEnabler (v : Word)
  | lwEnabler
  | swEnablew (v : Word)
  | lwEnablew
  -- the generic cells: 10_state.md R37
  | swGen (a v : Word)
  | lwGen (a : Word)
  -- the VTLB dispatchers: 30_encoding.md R190
  | load8u (va : Word)
  | load8s (va : Word)
  | load16u (va : Word)
  | load16s (va : Word)
  | load32u (va : Word)
  | load32s (va : Word)
  | load64 (va : Word)
  | load128 (va : Word)
  | store8 (va : Word) (v : Quad)
  | store16 (va : Word) (v : Quad)
  | store32 (va : Word) (v : Quad)
  | store64 (va : Word) (v : Quad)
  | store128 (va : Word) (v : Quad)
  deriving DecidableEq, Repr

/-- The write of register `r` of channel `c` (40_registers.md R200). -/
def Instr.swChan (c : Ch) (r : ChanReg) (v : Word) : Instr :=
  match c, r with
  | .vif0, .chcr => .swD0Chcr v
  | .vif0, .madr => .swD0Madr v
  | .vif0, .qwc => .swD0Qwc v
  | .vif0, .tadr => .swD0Tadr v
  | .vif0, .asr0 => .swD0Asr0 v
  | .vif0, .asr1 => .swD0Asr1 v
  | .vif0, .sadr => .swD0Sadr v
  | .vif1, .chcr => .swD1Chcr v
  | .vif1, .madr => .swD1Madr v
  | .vif1, .qwc => .swD1Qwc v
  | .vif1, .tadr => .swD1Tadr v
  | .vif1, .asr0 => .swD1Asr0 v
  | .vif1, .asr1 => .swD1Asr1 v
  | .vif1, .sadr => .swD1Sadr v
  | .gif, .chcr => .swD2Chcr v
  | .gif, .madr => .swD2Madr v
  | .gif, .qwc => .swD2Qwc v
  | .gif, .tadr => .swD2Tadr v
  | .gif, .asr0 => .swD2Asr0 v
  | .gif, .asr1 => .swD2Asr1 v
  | .gif, .sadr => .swD2Sadr v
  | .ipu0, .chcr => .swD3Chcr v
  | .ipu0, .madr => .swD3Madr v
  | .ipu0, .qwc => .swD3Qwc v
  | .ipu0, .tadr => .swD3Tadr v
  | .ipu0, .asr0 => .swD3Asr0 v
  | .ipu0, .asr1 => .swD3Asr1 v
  | .ipu0, .sadr => .swD3Sadr v
  | .ipu1, .chcr => .swD4Chcr v
  | .ipu1, .madr => .swD4Madr v
  | .ipu1, .qwc => .swD4Qwc v
  | .ipu1, .tadr => .swD4Tadr v
  | .ipu1, .asr0 => .swD4Asr0 v
  | .ipu1, .asr1 => .swD4Asr1 v
  | .ipu1, .sadr => .swD4Sadr v
  | .sif0, .chcr => .swD5Chcr v
  | .sif0, .madr => .swD5Madr v
  | .sif0, .qwc => .swD5Qwc v
  | .sif0, .tadr => .swD5Tadr v
  | .sif0, .asr0 => .swD5Asr0 v
  | .sif0, .asr1 => .swD5Asr1 v
  | .sif0, .sadr => .swD5Sadr v
  | .sif1, .chcr => .swD6Chcr v
  | .sif1, .madr => .swD6Madr v
  | .sif1, .qwc => .swD6Qwc v
  | .sif1, .tadr => .swD6Tadr v
  | .sif1, .asr0 => .swD6Asr0 v
  | .sif1, .asr1 => .swD6Asr1 v
  | .sif1, .sadr => .swD6Sadr v
  | .sif2, .chcr => .swD7Chcr v
  | .sif2, .madr => .swD7Madr v
  | .sif2, .qwc => .swD7Qwc v
  | .sif2, .tadr => .swD7Tadr v
  | .sif2, .asr0 => .swD7Asr0 v
  | .sif2, .asr1 => .swD7Asr1 v
  | .sif2, .sadr => .swD7Sadr v
  | .spr0, .chcr => .swD8Chcr v
  | .spr0, .madr => .swD8Madr v
  | .spr0, .qwc => .swD8Qwc v
  | .spr0, .tadr => .swD8Tadr v
  | .spr0, .asr0 => .swD8Asr0 v
  | .spr0, .asr1 => .swD8Asr1 v
  | .spr0, .sadr => .swD8Sadr v
  | .spr1, .chcr => .swD9Chcr v
  | .spr1, .madr => .swD9Madr v
  | .spr1, .qwc => .swD9Qwc v
  | .spr1, .tadr => .swD9Tadr v
  | .spr1, .asr0 => .swD9Asr0 v
  | .spr1, .asr1 => .swD9Asr1 v
  | .spr1, .sadr => .swD9Sadr v

/-- The read of register `r` of channel `c` (40_registers.md R201). -/
def Instr.lwChan (c : Ch) (r : ChanReg) : Instr :=
  match c, r with
  | .vif0, .chcr => .lwD0Chcr
  | .vif0, .madr => .lwD0Madr
  | .vif0, .qwc => .lwD0Qwc
  | .vif0, .tadr => .lwD0Tadr
  | .vif0, .asr0 => .lwD0Asr0
  | .vif0, .asr1 => .lwD0Asr1
  | .vif0, .sadr => .lwD0Sadr
  | .vif1, .chcr => .lwD1Chcr
  | .vif1, .madr => .lwD1Madr
  | .vif1, .qwc => .lwD1Qwc
  | .vif1, .tadr => .lwD1Tadr
  | .vif1, .asr0 => .lwD1Asr0
  | .vif1, .asr1 => .lwD1Asr1
  | .vif1, .sadr => .lwD1Sadr
  | .gif, .chcr => .lwD2Chcr
  | .gif, .madr => .lwD2Madr
  | .gif, .qwc => .lwD2Qwc
  | .gif, .tadr => .lwD2Tadr
  | .gif, .asr0 => .lwD2Asr0
  | .gif, .asr1 => .lwD2Asr1
  | .gif, .sadr => .lwD2Sadr
  | .ipu0, .chcr => .lwD3Chcr
  | .ipu0, .madr => .lwD3Madr
  | .ipu0, .qwc => .lwD3Qwc
  | .ipu0, .tadr => .lwD3Tadr
  | .ipu0, .asr0 => .lwD3Asr0
  | .ipu0, .asr1 => .lwD3Asr1
  | .ipu0, .sadr => .lwD3Sadr
  | .ipu1, .chcr => .lwD4Chcr
  | .ipu1, .madr => .lwD4Madr
  | .ipu1, .qwc => .lwD4Qwc
  | .ipu1, .tadr => .lwD4Tadr
  | .ipu1, .asr0 => .lwD4Asr0
  | .ipu1, .asr1 => .lwD4Asr1
  | .ipu1, .sadr => .lwD4Sadr
  | .sif0, .chcr => .lwD5Chcr
  | .sif0, .madr => .lwD5Madr
  | .sif0, .qwc => .lwD5Qwc
  | .sif0, .tadr => .lwD5Tadr
  | .sif0, .asr0 => .lwD5Asr0
  | .sif0, .asr1 => .lwD5Asr1
  | .sif0, .sadr => .lwD5Sadr
  | .sif1, .chcr => .lwD6Chcr
  | .sif1, .madr => .lwD6Madr
  | .sif1, .qwc => .lwD6Qwc
  | .sif1, .tadr => .lwD6Tadr
  | .sif1, .asr0 => .lwD6Asr0
  | .sif1, .asr1 => .lwD6Asr1
  | .sif1, .sadr => .lwD6Sadr
  | .sif2, .chcr => .lwD7Chcr
  | .sif2, .madr => .lwD7Madr
  | .sif2, .qwc => .lwD7Qwc
  | .sif2, .tadr => .lwD7Tadr
  | .sif2, .asr0 => .lwD7Asr0
  | .sif2, .asr1 => .lwD7Asr1
  | .sif2, .sadr => .lwD7Sadr
  | .spr0, .chcr => .lwD8Chcr
  | .spr0, .madr => .lwD8Madr
  | .spr0, .qwc => .lwD8Qwc
  | .spr0, .tadr => .lwD8Tadr
  | .spr0, .asr0 => .lwD8Asr0
  | .spr0, .asr1 => .lwD8Asr1
  | .spr0, .sadr => .lwD8Sadr
  | .spr1, .chcr => .lwD9Chcr
  | .spr1, .madr => .lwD9Madr
  | .spr1, .qwc => .lwD9Qwc
  | .spr1, .tadr => .lwD9Tadr
  | .spr1, .asr0 => .lwD9Asr0
  | .spr1, .asr1 => .lwD9Asr1
  | .spr1, .sadr => .lwD9Sadr

/-- The write of a global register (40_registers.md R200). -/
def Instr.swGlobal (g : GlobalReg) (v : Word) : Instr :=
  match g with
  | .ctrl => .swCtrl v
  | .stat => .swStat v
  | .pcr => .swPcr v
  | .sqwc => .swSqwc v
  | .rbsr => .swRbsr v
  | .rbor => .swRbor v
  | .stadr => .swStadr v
  | .enabler => .swEnabler v
  | .enablew => .swEnablew v

/-- The read of a global register (40_registers.md R201). -/
def Instr.lwGlobal (g : GlobalReg) : Instr :=
  match g with
  | .ctrl => .lwCtrl
  | .stat => .lwStat
  | .pcr => .lwPcr
  | .sqwc => .lwSqwc
  | .rbsr => .lwRbsr
  | .rbor => .lwRbor
  | .stadr => .lwStadr
  | .enabler => .lwEnabler
  | .enablew => .lwEnablew

end Sys2Proof
end

