-- ==== Sys2Proof/Decode.lean ====
section
/-!
DEFINITION. Decoding (30_encoding.md) and, after it, the encoder. An instruction reaches the block through one of
seven ports: a tag quadword read by an engine or an IOP half, a host register write or read, a dispatcher call.
The port is known from who reads the bytes; the same bits mean different things on different ports.
-/

namespace Sys2Proof

/-! ### Byte order (20_memory.md R110: little-endian everywhere) -/

/-- The first `n` bytes of `v`, least significant first. -/
def leBytes : Nat → Quad → List Byte
  | 0, _ => []
  | n + 1, v => v.setWidth 8 :: leBytes n (v >>> 8)

/-- The value of a byte list, least significant byte first. -/
def ofLeBytes : List Byte → Quad
  | [] => 0
  | b :: bs => (ofLeBytes bs <<< 8) ||| b.setWidth 128

/-- The four words of a quadword as one value, `w0` lowest (20_memory.md R110). -/
def quadOf (w0 w1 w2 w3 : Word) : Quad := w3 ++ (w2 ++ (w1 ++ w0))

/-- Word `i` of a quadword (20_memory.md R110). -/
def wordOf (q : Quad) (i : Nat) : Word := q.extractLsb' (32 * i) 32

/-! ### The MMIO address map -/

/-- base(c) (30_encoding.md R180). -/
def Ch.base : Ch → Word
  | .vif0 => 0x10008000 | .vif1 => 0x10009000 | .gif  => 0x1000A000
  | .ipu0 => 0x1000B000 | .ipu1 => 0x1000B400
  | .sif0 => 0x1000C000 | .sif1 => 0x1000C400 | .sif2 => 0x1000C800
  | .spr0 => 0x1000D000 | .spr1 => 0x1000D400

/-- offset(R) (30_encoding.md R181). -/
def ChanReg.offset : ChanReg → Word
  | .chcr => 0x00 | .madr => 0x10 | .qwc => 0x20 | .tadr => 0x30
  | .asr0 => 0x40 | .asr1 => 0x50 | .sadr => 0x80

/-- The address of a global register (30_encoding.md R182). -/
def GlobalReg.addr : GlobalReg → Word
  | .ctrl => 0x1000E000 | .stat => 0x1000E010 | .pcr => 0x1000E020 | .sqwc => 0x1000E030
  | .rbsr => 0x1000E040 | .rbor => 0x1000E050 | .stadr => 0x1000E060
  | .enabler => 0x1000F520 | .enablew => 0x1000F590

/-- What an MMIO address names (30_encoding.md R185). -/
inductive MmioTarget where
  | chan (c : Ch) (r : ChanReg)
  | global (g : GlobalReg)
  | generic (a : Word)
  | unaligned
  | outside
  deriving DecidableEq, Repr

/-- The channel register at `addr`, if there is one. -/
def chanAt (addr : Word) : Option (Ch × ChanReg) :=
  Ch.all.findSome? fun c => ChanReg.all.findSome? fun r =>
    if addr = c.base + r.offset then some (c, r) else none

/-- The global register at `addr`, if there is one. -/
def globalAt (addr : Word) : Option GlobalReg :=
  GlobalReg.all.find? fun g => addr = g.addr

/-- `DecodeMmio` (30_encoding.md R185), total on 32-bit addresses. -/
def decodeMmio (addr : Word) : MmioTarget :=
  if addr.extractLsb' 0 2 ≠ 0 then .unaligned
  else match chanAt addr with
    | some (c, r) => .chan c r
    | none =>
      match globalAt addr with
      | some g => .global g
      | none => if 0x10008000 ≤ addr ∧ addr ≤ 0x1000EFFC then .generic addr else .outside

/-! ### The dispatcher selector -/

/-- wcode(w) (44_vtlb.md R490). -/
def Width.code : Width → BitVec 5
  | .w8 => 0 | .w16 => 1 | .w32 => 2 | .w64 => 3 | .w128 => 4

/-- `Sel(dir, w, sign)` (30_encoding.md R190, 44_vtlb.md R490). -/
def selector (store : Bool) (w : Width) (sign : Bool) : BitVec 5 :=
  (if store then 0x10 else 0) ||| (w.code <<< 1) ||| (if sign then 1 else 0)

/-- The 13 valid selectors (30_encoding.md R190, 44_vtlb.md R495). -/
def validSelectors : List (BitVec 5) :=
  [0x00, 0x01, 0x02, 0x03, 0x04, 0x05, 0x06, 0x08, 0x10, 0x12, 0x14, 0x16, 0x18]

/-- The dispatcher call a selector makes, none where the selector is no dispatcher (44_vtlb.md R495, R496). -/
def dispatcher? (sel : BitVec 5) (va : Word) (v : Quad) : Option Instr :=
  match sel.toNat with
  | 0x00 => some (.load8u va)
  | 0x01 => some (.load8s va)
  | 0x02 => some (.load16u va)
  | 0x03 => some (.load16s va)
  | 0x04 => some (.load32u va)
  | 0x05 => some (.load32s va)
  | 0x06 => some (.load64 va)
  | 0x08 => some (.load128 va)
  | 0x10 => some (.store8 va v)
  | 0x12 => some (.store16 va v)
  | 0x14 => some (.store32 va v)
  | 0x16 => some (.store64 va v)
  | 0x18 => some (.store128 va v)
  | _ => none

/-! ### Tags -/

/-- ID, tag[30:28] (30_encoding.md R150). -/
def tagId (q : Quad) : BitVec 3 := q.extractLsb' 28 3

/-- The other fields of a tag quadword (30_encoding.md R150, R152). -/
def Tag.ofQuad (q : Quad) : Tag where
  qwc := q.extractLsb' 0 16
  rsv := q.extractLsb' 16 10
  pce := q.extractLsb' 26 2
  irq := q.extractLsb' 31 1
  a   := q.extractLsb' 32 32
  hi  := q.extractLsb' 64 64

/-- The source-chain tag in a quadword (30_encoding.md R151: all eight IDs are defined). -/
def decodeSrcTag (c : SrcCh) (q : Quad) : Instr :=
  let t := Tag.ofQuad q
  match (tagId q).toNat with
  | 0 => .srcRefe c t | 1 => .srcCnt c t | 2 => .srcNext c t | 3 => .srcRef c t
  | 4 => .srcRefs c t | 5 => .srcCall c t | 6 => .srcRet c t | _ => .srcEnd c t

/-- The destination-chain tag in a quadword (30_encoding.md R153). -/
def decodeDstTag (c : DstCh) (q : Quad) : Instr :=
  let t := Tag.ofQuad q
  match (tagId q).toNat with
  | 0 => .dstCnts c t | 1 => .dstCnt c t | 2 => .dstRsv2 c t | 3 => .dstRsv3 c t
  | 4 => .dstRsv4 c t | 5 => .dstRsv5 c t | 6 => .dstRsv6 c t | _ => .dstEnd c t

/-- The IOP tag in four words, u0 lowest (30_encoding.md R155). -/
def IopTag.ofQuad (q : Quad) : IopTag where
  iaddr := q.extractLsb' 0 24
  ign0  := q.extractLsb' 24 6
  ert   := q.extractLsb' 30 1
  iirq  := q.extractLsb' 31 1
  words := q.extractLsb' 32 20
  ign1  := q.extractLsb' 52 12
  u2    := q.extractLsb' 64 32
  u3    := q.extractLsb' 96 32

/-! ### The decoder -/

/-- Who reads the bytes of an instruction (30_encoding.md R154; 40_registers.md R200, R201; 44_vtlb.md R490). -/
inductive Port where
  | srcTag (c : SrcCh)
  | dstTag (c : DstCh)
  | iopTagSif0
  | iopTagSif1
  | mmioWrite
  | mmioRead
  | dispatch
  deriving DecidableEq, Repr

/-- Why bytes are no instruction. -/
inductive DecodeError where
  /-- Fewer bytes than the port's instructions have. -/
  | tooShort
  /-- A register address that is not word-aligned (40_registers.md R202). -/
  | unaligned (addr : Word)
  /-- A register address outside the DMAC register pages (40_registers.md R202). -/
  | outside (addr : Word)
  /-- A selector outside the set of 44_vtlb.md R495 (R496), or a byte that is no 5-bit selector. -/
  | notADispatcher (b : Byte)
  deriving DecidableEq, Repr

/-- An instruction, or the name of the reason there is none. -/
inductive Decoded where
  | ok (i : Instr)
  | bad (e : DecodeError)
  deriving DecidableEq, Repr

/-- The register write at `addr` (30_encoding.md R185, 40_registers.md R200). -/
def decodeWrite (addr v : Word) : Decoded :=
  match decodeMmio addr with
  | .chan c r  => .ok (.swChan c r v)
  | .global g  => .ok (.swGlobal g v)
  | .generic a => .ok (.swGen a v)
  | .unaligned => .bad (.unaligned addr)
  | .outside   => .bad (.outside addr)

/-- The register read at `addr` (30_encoding.md R185, 40_registers.md R201). -/
def decodeRead (addr : Word) : Decoded :=
  match decodeMmio addr with
  | .chan c r  => .ok (.lwChan c r)
  | .global g  => .ok (.lwGlobal g)
  | .generic a => .ok (.lwGen a)
  | .unaligned => .bad (.unaligned addr)
  | .outside   => .bad (.outside addr)

/-- How many bytes an instruction of the port has. A tag is one quadword (30_encoding.md R197). The host's commands
have no encoding in memory; the model lays out the selector byte, then the address, then the value (log 17). -/
def Port.length : Port → Nat
  | .srcTag _ | .dstTag _ | .iopTagSif0 | .iopTagSif1 => 16
  | .mmioWrite => 8
  | .mmioRead  => 4
  | .dispatch  => 21

/-- The decoder, total on any bytes. Bytes past the instruction's own are not read. -/
def decode (p : Port) (bs : List Byte) : Decoded :=
  if bs.length < p.length then .bad .tooShort
  else match p with
    | .srcTag c => .ok (decodeSrcTag c (ofLeBytes (bs.take 16)))
    | .dstTag c => .ok (decodeDstTag c (ofLeBytes (bs.take 16)))
    | .iopTagSif0 => .ok (.iopTagSif0 (IopTag.ofQuad (ofLeBytes (bs.take 16))))
    | .iopTagSif1 => .ok (.iopTagSif1 (IopTag.ofQuad (ofLeBytes (bs.take 16))))
    | .mmioWrite =>
      decodeWrite ((ofLeBytes (bs.take 4)).setWidth 32) ((ofLeBytes ((bs.drop 4).take 4)).setWidth 32)
    | .mmioRead => decodeRead ((ofLeBytes (bs.take 4)).setWidth 32)
    | .dispatch =>
      let b := (ofLeBytes (bs.take 1)).setWidth 8
      if b.toNat < 32 then
        match dispatcher? (b.setWidth 5) ((ofLeBytes ((bs.drop 1).take 4)).setWidth 32)
            (ofLeBytes ((bs.drop 5).take 16)) with
        | some i => .ok i
        | none => .bad (.notADispatcher b)
      else .bad (.notADispatcher b)

/-! ### The encoder -/

/-- The quadword of a tag with the given ID (30_encoding.md R150). -/
def Tag.quad (id : BitVec 3) (t : Tag) : Quad :=
  t.hi ++ (t.a ++ (t.irq ++ (id ++ (t.pce ++ (t.rsv ++ t.qwc)))))

/-- tag[31:16], the bits cached into CHCR.TAG (30_encoding.md R152). -/
def Tag.tagH (id : BitVec 3) (t : Tag) : BitVec 16 := t.irq ++ (id ++ (t.pce ++ t.rsv))

/-- The four words of an IOP tag as one quadword (30_encoding.md R155). -/
def IopTag.quad (t : IopTag) : Quad :=
  t.u3 ++ (t.u2 ++ (t.ign1 ++ (t.words ++ (t.iirq ++ (t.ert ++ (t.ign0 ++ t.iaddr))))))

/-- The bytes of a register write: the address, then the value. -/
def encodeWrite (addr v : Word) : List Byte :=
  leBytes 4 (addr.setWidth 128) ++ leBytes 4 (v.setWidth 128)

/-- The bytes of a register read: the address. -/
def encodeRead (addr : Word) : List Byte := leBytes 4 (addr.setWidth 128)

/-- The bytes of a dispatcher call: the selector, the guest address, the value (0 for a load). -/
def encodeDispatch (sel : BitVec 5) (va : Word) (v : Quad) : List Byte :=
  leBytes 1 (sel.setWidth 128) ++ leBytes 4 (va.setWidth 128) ++ leBytes 16 v

/-- The port an instruction comes through. -/
def Instr.port : Instr → Port
  | .srcRefe c _ => .srcTag c
  | .srcCnt c _ => .srcTag c
  | .srcNext c _ => .srcTag c
  | .srcRef c _ => .srcTag c
  | .srcRefs c _ => .srcTag c
  | .srcCall c _ => .srcTag c
  | .srcRet c _ => .srcTag c
  | .srcEnd c _ => .srcTag c
  | .dstCnts c _ => .dstTag c
  | .dstCnt c _ => .dstTag c
  | .dstRsv2 c _ => .dstTag c
  | .dstRsv3 c _ => .dstTag c
  | .dstRsv4 c _ => .dstTag c
  | .dstRsv5 c _ => .dstTag c
  | .dstRsv6 c _ => .dstTag c
  | .dstEnd c _ => .dstTag c
  | .iopTagSif0 _ => .iopTagSif0
  | .iopTagSif1 _ => .iopTagSif1
  | .swD0Chcr _ | .swD0Madr _ | .swD0Qwc _ | .swD0Tadr _ | .swD0Asr0 _ | .swD0Asr1 _ | .swD0Sadr _ => .mmioWrite
  | .lwD0Chcr | .lwD0Madr | .lwD0Qwc | .lwD0Tadr | .lwD0Asr0 | .lwD0Asr1 | .lwD0Sadr => .mmioRead
  | .swD1Chcr _ | .swD1Madr _ | .swD1Qwc _ | .swD1Tadr _ | .swD1Asr0 _ | .swD1Asr1 _ | .swD1Sadr _ => .mmioWrite
  | .lwD1Chcr | .lwD1Madr | .lwD1Qwc | .lwD1Tadr | .lwD1Asr0 | .lwD1Asr1 | .lwD1Sadr => .mmioRead
  | .swD2Chcr _ | .swD2Madr _ | .swD2Qwc _ | .swD2Tadr _ | .swD2Asr0 _ | .swD2Asr1 _ | .swD2Sadr _ => .mmioWrite
  | .lwD2Chcr | .lwD2Madr | .lwD2Qwc | .lwD2Tadr | .lwD2Asr0 | .lwD2Asr1 | .lwD2Sadr => .mmioRead
  | .swD3Chcr _ | .swD3Madr _ | .swD3Qwc _ | .swD3Tadr _ | .swD3Asr0 _ | .swD3Asr1 _ | .swD3Sadr _ => .mmioWrite
  | .lwD3Chcr | .lwD3Madr | .lwD3Qwc | .lwD3Tadr | .lwD3Asr0 | .lwD3Asr1 | .lwD3Sadr => .mmioRead
  | .swD4Chcr _ | .swD4Madr _ | .swD4Qwc _ | .swD4Tadr _ | .swD4Asr0 _ | .swD4Asr1 _ | .swD4Sadr _ => .mmioWrite
  | .lwD4Chcr | .lwD4Madr | .lwD4Qwc | .lwD4Tadr | .lwD4Asr0 | .lwD4Asr1 | .lwD4Sadr => .mmioRead
  | .swD5Chcr _ | .swD5Madr _ | .swD5Qwc _ | .swD5Tadr _ | .swD5Asr0 _ | .swD5Asr1 _ | .swD5Sadr _ => .mmioWrite
  | .lwD5Chcr | .lwD5Madr | .lwD5Qwc | .lwD5Tadr | .lwD5Asr0 | .lwD5Asr1 | .lwD5Sadr => .mmioRead
  | .swD6Chcr _ | .swD6Madr _ | .swD6Qwc _ | .swD6Tadr _ | .swD6Asr0 _ | .swD6Asr1 _ | .swD6Sadr _ => .mmioWrite
  | .lwD6Chcr | .lwD6Madr | .lwD6Qwc | .lwD6Tadr | .lwD6Asr0 | .lwD6Asr1 | .lwD6Sadr => .mmioRead
  | .swD7Chcr _ | .swD7Madr _ | .swD7Qwc _ | .swD7Tadr _ | .swD7Asr0 _ | .swD7Asr1 _ | .swD7Sadr _ => .mmioWrite
  | .lwD7Chcr | .lwD7Madr | .lwD7Qwc | .lwD7Tadr | .lwD7Asr0 | .lwD7Asr1 | .lwD7Sadr => .mmioRead
  | .swD8Chcr _ | .swD8Madr _ | .swD8Qwc _ | .swD8Tadr _ | .swD8Asr0 _ | .swD8Asr1 _ | .swD8Sadr _ => .mmioWrite
  | .lwD8Chcr | .lwD8Madr | .lwD8Qwc | .lwD8Tadr | .lwD8Asr0 | .lwD8Asr1 | .lwD8Sadr => .mmioRead
  | .swD9Chcr _ | .swD9Madr _ | .swD9Qwc _ | .swD9Tadr _ | .swD9Asr0 _ | .swD9Asr1 _ | .swD9Sadr _ => .mmioWrite
  | .lwD9Chcr | .lwD9Madr | .lwD9Qwc | .lwD9Tadr | .lwD9Asr0 | .lwD9Asr1 | .lwD9Sadr => .mmioRead
  | .swCtrl _ | .swStat _ | .swPcr _ | .swSqwc _ | .swRbsr _ | .swRbor _ | .swStadr _ | .swEnabler _ | .swEnablew _ => .mmioWrite
  | .lwCtrl | .lwStat | .lwPcr | .lwSqwc | .lwRbsr | .lwRbor | .lwStadr | .lwEnabler | .lwEnablew => .mmioRead
  | .swGen _ _ => .mmioWrite
  | .lwGen _ => .mmioRead
  | .load8u _ | .load8s _ | .load16u _ | .load16s _ | .load32u _ | .load32s _ | .load64 _ | .load128 _ => .dispatch
  | .store8 _ _ | .store16 _ _ | .store32 _ _ | .store64 _ _ | .store128 _ _ => .dispatch

/-- The bytes of a well-formed instruction, from the encoding tables of 30_encoding.md. -/
def encode : Instr → List Byte
  | .srcRefe _ t => leBytes 16 (t.quad 0)
  | .srcCnt _ t => leBytes 16 (t.quad 1)
  | .srcNext _ t => leBytes 16 (t.quad 2)
  | .srcRef _ t => leBytes 16 (t.quad 3)
  | .srcRefs _ t => leBytes 16 (t.quad 4)
  | .srcCall _ t => leBytes 16 (t.quad 5)
  | .srcRet _ t => leBytes 16 (t.quad 6)
  | .srcEnd _ t => leBytes 16 (t.quad 7)
  | .dstCnts _ t => leBytes 16 (t.quad 0)
  | .dstCnt _ t => leBytes 16 (t.quad 1)
  | .dstRsv2 _ t => leBytes 16 (t.quad 2)
  | .dstRsv3 _ t => leBytes 16 (t.quad 3)
  | .dstRsv4 _ t => leBytes 16 (t.quad 4)
  | .dstRsv5 _ t => leBytes 16 (t.quad 5)
  | .dstRsv6 _ t => leBytes 16 (t.quad 6)
  | .dstEnd _ t => leBytes 16 (t.quad 7)
  | .iopTagSif0 t => leBytes 16 t.quad
  | .iopTagSif1 t => leBytes 16 t.quad
  | .swD0Chcr v => encodeWrite (Ch.base .vif0 + ChanReg.offset .chcr) v
  | .lwD0Chcr => encodeRead (Ch.base .vif0 + ChanReg.offset .chcr)
  | .swD0Madr v => encodeWrite (Ch.base .vif0 + ChanReg.offset .madr) v
  | .lwD0Madr => encodeRead (Ch.base .vif0 + ChanReg.offset .madr)
  | .swD0Qwc v => encodeWrite (Ch.base .vif0 + ChanReg.offset .qwc) v
  | .lwD0Qwc => encodeRead (Ch.base .vif0 + ChanReg.offset .qwc)
  | .swD0Tadr v => encodeWrite (Ch.base .vif0 + ChanReg.offset .tadr) v
  | .lwD0Tadr => encodeRead (Ch.base .vif0 + ChanReg.offset .tadr)
  | .swD0Asr0 v => encodeWrite (Ch.base .vif0 + ChanReg.offset .asr0) v
  | .lwD0Asr0 => encodeRead (Ch.base .vif0 + ChanReg.offset .asr0)
  | .swD0Asr1 v => encodeWrite (Ch.base .vif0 + ChanReg.offset .asr1) v
  | .lwD0Asr1 => encodeRead (Ch.base .vif0 + ChanReg.offset .asr1)
  | .swD0Sadr v => encodeWrite (Ch.base .vif0 + ChanReg.offset .sadr) v
  | .lwD0Sadr => encodeRead (Ch.base .vif0 + ChanReg.offset .sadr)
  | .swD1Chcr v => encodeWrite (Ch.base .vif1 + ChanReg.offset .chcr) v
  | .lwD1Chcr => encodeRead (Ch.base .vif1 + ChanReg.offset .chcr)
  | .swD1Madr v => encodeWrite (Ch.base .vif1 + ChanReg.offset .madr) v
  | .lwD1Madr => encodeRead (Ch.base .vif1 + ChanReg.offset .madr)
  | .swD1Qwc v => encodeWrite (Ch.base .vif1 + ChanReg.offset .qwc) v
  | .lwD1Qwc => encodeRead (Ch.base .vif1 + ChanReg.offset .qwc)
  | .swD1Tadr v => encodeWrite (Ch.base .vif1 + ChanReg.offset .tadr) v
  | .lwD1Tadr => encodeRead (Ch.base .vif1 + ChanReg.offset .tadr)
  | .swD1Asr0 v => encodeWrite (Ch.base .vif1 + ChanReg.offset .asr0) v
  | .lwD1Asr0 => encodeRead (Ch.base .vif1 + ChanReg.offset .asr0)
  | .swD1Asr1 v => encodeWrite (Ch.base .vif1 + ChanReg.offset .asr1) v
  | .lwD1Asr1 => encodeRead (Ch.base .vif1 + ChanReg.offset .asr1)
  | .swD1Sadr v => encodeWrite (Ch.base .vif1 + ChanReg.offset .sadr) v
  | .lwD1Sadr => encodeRead (Ch.base .vif1 + ChanReg.offset .sadr)
  | .swD2Chcr v => encodeWrite (Ch.base .gif + ChanReg.offset .chcr) v
  | .lwD2Chcr => encodeRead (Ch.base .gif + ChanReg.offset .chcr)
  | .swD2Madr v => encodeWrite (Ch.base .gif + ChanReg.offset .madr) v
  | .lwD2Madr => encodeRead (Ch.base .gif + ChanReg.offset .madr)
  | .swD2Qwc v => encodeWrite (Ch.base .gif + ChanReg.offset .qwc) v
  | .lwD2Qwc => encodeRead (Ch.base .gif + ChanReg.offset .qwc)
  | .swD2Tadr v => encodeWrite (Ch.base .gif + ChanReg.offset .tadr) v
  | .lwD2Tadr => encodeRead (Ch.base .gif + ChanReg.offset .tadr)
  | .swD2Asr0 v => encodeWrite (Ch.base .gif + ChanReg.offset .asr0) v
  | .lwD2Asr0 => encodeRead (Ch.base .gif + ChanReg.offset .asr0)
  | .swD2Asr1 v => encodeWrite (Ch.base .gif + ChanReg.offset .asr1) v
  | .lwD2Asr1 => encodeRead (Ch.base .gif + ChanReg.offset .asr1)
  | .swD2Sadr v => encodeWrite (Ch.base .gif + ChanReg.offset .sadr) v
  | .lwD2Sadr => encodeRead (Ch.base .gif + ChanReg.offset .sadr)
  | .swD3Chcr v => encodeWrite (Ch.base .ipu0 + ChanReg.offset .chcr) v
  | .lwD3Chcr => encodeRead (Ch.base .ipu0 + ChanReg.offset .chcr)
  | .swD3Madr v => encodeWrite (Ch.base .ipu0 + ChanReg.offset .madr) v
  | .lwD3Madr => encodeRead (Ch.base .ipu0 + ChanReg.offset .madr)
  | .swD3Qwc v => encodeWrite (Ch.base .ipu0 + ChanReg.offset .qwc) v
  | .lwD3Qwc => encodeRead (Ch.base .ipu0 + ChanReg.offset .qwc)
  | .swD3Tadr v => encodeWrite (Ch.base .ipu0 + ChanReg.offset .tadr) v
  | .lwD3Tadr => encodeRead (Ch.base .ipu0 + ChanReg.offset .tadr)
  | .swD3Asr0 v => encodeWrite (Ch.base .ipu0 + ChanReg.offset .asr0) v
  | .lwD3Asr0 => encodeRead (Ch.base .ipu0 + ChanReg.offset .asr0)
  | .swD3Asr1 v => encodeWrite (Ch.base .ipu0 + ChanReg.offset .asr1) v
  | .lwD3Asr1 => encodeRead (Ch.base .ipu0 + ChanReg.offset .asr1)
  | .swD3Sadr v => encodeWrite (Ch.base .ipu0 + ChanReg.offset .sadr) v
  | .lwD3Sadr => encodeRead (Ch.base .ipu0 + ChanReg.offset .sadr)
  | .swD4Chcr v => encodeWrite (Ch.base .ipu1 + ChanReg.offset .chcr) v
  | .lwD4Chcr => encodeRead (Ch.base .ipu1 + ChanReg.offset .chcr)
  | .swD4Madr v => encodeWrite (Ch.base .ipu1 + ChanReg.offset .madr) v
  | .lwD4Madr => encodeRead (Ch.base .ipu1 + ChanReg.offset .madr)
  | .swD4Qwc v => encodeWrite (Ch.base .ipu1 + ChanReg.offset .qwc) v
  | .lwD4Qwc => encodeRead (Ch.base .ipu1 + ChanReg.offset .qwc)
  | .swD4Tadr v => encodeWrite (Ch.base .ipu1 + ChanReg.offset .tadr) v
  | .lwD4Tadr => encodeRead (Ch.base .ipu1 + ChanReg.offset .tadr)
  | .swD4Asr0 v => encodeWrite (Ch.base .ipu1 + ChanReg.offset .asr0) v
  | .lwD4Asr0 => encodeRead (Ch.base .ipu1 + ChanReg.offset .asr0)
  | .swD4Asr1 v => encodeWrite (Ch.base .ipu1 + ChanReg.offset .asr1) v
  | .lwD4Asr1 => encodeRead (Ch.base .ipu1 + ChanReg.offset .asr1)
  | .swD4Sadr v => encodeWrite (Ch.base .ipu1 + ChanReg.offset .sadr) v
  | .lwD4Sadr => encodeRead (Ch.base .ipu1 + ChanReg.offset .sadr)
  | .swD5Chcr v => encodeWrite (Ch.base .sif0 + ChanReg.offset .chcr) v
  | .lwD5Chcr => encodeRead (Ch.base .sif0 + ChanReg.offset .chcr)
  | .swD5Madr v => encodeWrite (Ch.base .sif0 + ChanReg.offset .madr) v
  | .lwD5Madr => encodeRead (Ch.base .sif0 + ChanReg.offset .madr)
  | .swD5Qwc v => encodeWrite (Ch.base .sif0 + ChanReg.offset .qwc) v
  | .lwD5Qwc => encodeRead (Ch.base .sif0 + ChanReg.offset .qwc)
  | .swD5Tadr v => encodeWrite (Ch.base .sif0 + ChanReg.offset .tadr) v
  | .lwD5Tadr => encodeRead (Ch.base .sif0 + ChanReg.offset .tadr)
  | .swD5Asr0 v => encodeWrite (Ch.base .sif0 + ChanReg.offset .asr0) v
  | .lwD5Asr0 => encodeRead (Ch.base .sif0 + ChanReg.offset .asr0)
  | .swD5Asr1 v => encodeWrite (Ch.base .sif0 + ChanReg.offset .asr1) v
  | .lwD5Asr1 => encodeRead (Ch.base .sif0 + ChanReg.offset .asr1)
  | .swD5Sadr v => encodeWrite (Ch.base .sif0 + ChanReg.offset .sadr) v
  | .lwD5Sadr => encodeRead (Ch.base .sif0 + ChanReg.offset .sadr)
  | .swD6Chcr v => encodeWrite (Ch.base .sif1 + ChanReg.offset .chcr) v
  | .lwD6Chcr => encodeRead (Ch.base .sif1 + ChanReg.offset .chcr)
  | .swD6Madr v => encodeWrite (Ch.base .sif1 + ChanReg.offset .madr) v
  | .lwD6Madr => encodeRead (Ch.base .sif1 + ChanReg.offset .madr)
  | .swD6Qwc v => encodeWrite (Ch.base .sif1 + ChanReg.offset .qwc) v
  | .lwD6Qwc => encodeRead (Ch.base .sif1 + ChanReg.offset .qwc)
  | .swD6Tadr v => encodeWrite (Ch.base .sif1 + ChanReg.offset .tadr) v
  | .lwD6Tadr => encodeRead (Ch.base .sif1 + ChanReg.offset .tadr)
  | .swD6Asr0 v => encodeWrite (Ch.base .sif1 + ChanReg.offset .asr0) v
  | .lwD6Asr0 => encodeRead (Ch.base .sif1 + ChanReg.offset .asr0)
  | .swD6Asr1 v => encodeWrite (Ch.base .sif1 + ChanReg.offset .asr1) v
  | .lwD6Asr1 => encodeRead (Ch.base .sif1 + ChanReg.offset .asr1)
  | .swD6Sadr v => encodeWrite (Ch.base .sif1 + ChanReg.offset .sadr) v
  | .lwD6Sadr => encodeRead (Ch.base .sif1 + ChanReg.offset .sadr)
  | .swD7Chcr v => encodeWrite (Ch.base .sif2 + ChanReg.offset .chcr) v
  | .lwD7Chcr => encodeRead (Ch.base .sif2 + ChanReg.offset .chcr)
  | .swD7Madr v => encodeWrite (Ch.base .sif2 + ChanReg.offset .madr) v
  | .lwD7Madr => encodeRead (Ch.base .sif2 + ChanReg.offset .madr)
  | .swD7Qwc v => encodeWrite (Ch.base .sif2 + ChanReg.offset .qwc) v
  | .lwD7Qwc => encodeRead (Ch.base .sif2 + ChanReg.offset .qwc)
  | .swD7Tadr v => encodeWrite (Ch.base .sif2 + ChanReg.offset .tadr) v
  | .lwD7Tadr => encodeRead (Ch.base .sif2 + ChanReg.offset .tadr)
  | .swD7Asr0 v => encodeWrite (Ch.base .sif2 + ChanReg.offset .asr0) v
  | .lwD7Asr0 => encodeRead (Ch.base .sif2 + ChanReg.offset .asr0)
  | .swD7Asr1 v => encodeWrite (Ch.base .sif2 + ChanReg.offset .asr1) v
  | .lwD7Asr1 => encodeRead (Ch.base .sif2 + ChanReg.offset .asr1)
  | .swD7Sadr v => encodeWrite (Ch.base .sif2 + ChanReg.offset .sadr) v
  | .lwD7Sadr => encodeRead (Ch.base .sif2 + ChanReg.offset .sadr)
  | .swD8Chcr v => encodeWrite (Ch.base .spr0 + ChanReg.offset .chcr) v
  | .lwD8Chcr => encodeRead (Ch.base .spr0 + ChanReg.offset .chcr)
  | .swD8Madr v => encodeWrite (Ch.base .spr0 + ChanReg.offset .madr) v
  | .lwD8Madr => encodeRead (Ch.base .spr0 + ChanReg.offset .madr)
  | .swD8Qwc v => encodeWrite (Ch.base .spr0 + ChanReg.offset .qwc) v
  | .lwD8Qwc => encodeRead (Ch.base .spr0 + ChanReg.offset .qwc)
  | .swD8Tadr v => encodeWrite (Ch.base .spr0 + ChanReg.offset .tadr) v
  | .lwD8Tadr => encodeRead (Ch.base .spr0 + ChanReg.offset .tadr)
  | .swD8Asr0 v => encodeWrite (Ch.base .spr0 + ChanReg.offset .asr0) v
  | .lwD8Asr0 => encodeRead (Ch.base .spr0 + ChanReg.offset .asr0)
  | .swD8Asr1 v => encodeWrite (Ch.base .spr0 + ChanReg.offset .asr1) v
  | .lwD8Asr1 => encodeRead (Ch.base .spr0 + ChanReg.offset .asr1)
  | .swD8Sadr v => encodeWrite (Ch.base .spr0 + ChanReg.offset .sadr) v
  | .lwD8Sadr => encodeRead (Ch.base .spr0 + ChanReg.offset .sadr)
  | .swD9Chcr v => encodeWrite (Ch.base .spr1 + ChanReg.offset .chcr) v
  | .lwD9Chcr => encodeRead (Ch.base .spr1 + ChanReg.offset .chcr)
  | .swD9Madr v => encodeWrite (Ch.base .spr1 + ChanReg.offset .madr) v
  | .lwD9Madr => encodeRead (Ch.base .spr1 + ChanReg.offset .madr)
  | .swD9Qwc v => encodeWrite (Ch.base .spr1 + ChanReg.offset .qwc) v
  | .lwD9Qwc => encodeRead (Ch.base .spr1 + ChanReg.offset .qwc)
  | .swD9Tadr v => encodeWrite (Ch.base .spr1 + ChanReg.offset .tadr) v
  | .lwD9Tadr => encodeRead (Ch.base .spr1 + ChanReg.offset .tadr)
  | .swD9Asr0 v => encodeWrite (Ch.base .spr1 + ChanReg.offset .asr0) v
  | .lwD9Asr0 => encodeRead (Ch.base .spr1 + ChanReg.offset .asr0)
  | .swD9Asr1 v => encodeWrite (Ch.base .spr1 + ChanReg.offset .asr1) v
  | .lwD9Asr1 => encodeRead (Ch.base .spr1 + ChanReg.offset .asr1)
  | .swD9Sadr v => encodeWrite (Ch.base .spr1 + ChanReg.offset .sadr) v
  | .lwD9Sadr => encodeRead (Ch.base .spr1 + ChanReg.offset .sadr)
  | .swCtrl v => encodeWrite (GlobalReg.addr .ctrl) v
  | .lwCtrl => encodeRead (GlobalReg.addr .ctrl)
  | .swStat v => encodeWrite (GlobalReg.addr .stat) v
  | .lwStat => encodeRead (GlobalReg.addr .stat)
  | .swPcr v => encodeWrite (GlobalReg.addr .pcr) v
  | .lwPcr => encodeRead (GlobalReg.addr .pcr)
  | .swSqwc v => encodeWrite (GlobalReg.addr .sqwc) v
  | .lwSqwc => encodeRead (GlobalReg.addr .sqwc)
  | .swRbsr v => encodeWrite (GlobalReg.addr .rbsr) v
  | .lwRbsr => encodeRead (GlobalReg.addr .rbsr)
  | .swRbor v => encodeWrite (GlobalReg.addr .rbor) v
  | .lwRbor => encodeRead (GlobalReg.addr .rbor)
  | .swStadr v => encodeWrite (GlobalReg.addr .stadr) v
  | .lwStadr => encodeRead (GlobalReg.addr .stadr)
  | .swEnabler v => encodeWrite (GlobalReg.addr .enabler) v
  | .lwEnabler => encodeRead (GlobalReg.addr .enabler)
  | .swEnablew v => encodeWrite (GlobalReg.addr .enablew) v
  | .lwEnablew => encodeRead (GlobalReg.addr .enablew)
  | .swGen a v => encodeWrite a v
  | .lwGen a => encodeRead a
  | .load8u va => encodeDispatch 0x00 va 0
  | .load8s va => encodeDispatch 0x01 va 0
  | .load16u va => encodeDispatch 0x02 va 0
  | .load16s va => encodeDispatch 0x03 va 0
  | .load32u va => encodeDispatch 0x04 va 0
  | .load32s va => encodeDispatch 0x05 va 0
  | .load64 va => encodeDispatch 0x06 va 0
  | .load128 va => encodeDispatch 0x08 va 0
  | .store8 va v => encodeDispatch 0x10 va v
  | .store16 va v => encodeDispatch 0x12 va v
  | .store32 va v => encodeDispatch 0x14 va v
  | .store64 va v => encodeDispatch 0x16 va v
  | .store128 va v => encodeDispatch 0x18 va v

/-! ### The opcode table's words -/

/-- The port through which a word of the opcode table is read where no port is named: a row of 8 bits is a dispatcher
selector; a word that is the address of a DMAC register or cell is a register write; any other word is the low word
of a source-chain tag (log 19: the table gives rows of different ports the same words). -/
def tablePort (nbits w : Nat) : Port :=
  if nbits ≤ 8 then .dispatch
  else match decodeMmio (BitVec.ofNat 32 w) with
    | .chan _ _ | .global _ | .generic _ => .mmioWrite
    | .unaligned | .outside => .srcTag .spr1

/-- The instruction whose low bits are `w` and whose other bits are 0, as the decoder reads it. -/
def decodeTableWord (nbits w : Nat) : Option Instr :=
  let p := tablePort nbits w
  match decode p (leBytes 16 (BitVec.ofNat 128 w) ++ List.replicate 16 0) with
  | .ok i => some i
  | .bad _ => none

end Sys2Proof
end

