-- ==== Sys2Proof/Machine/State.lean ====
section
/-!
DEFINITION. The state of the block, all of it plain data: the register file (10_state.md R20 to R37), the engines and
their events (R40 to R43), the SIF and IPU state (R50 to R57), the memories (R60), the VTLB (R70, R71), the fault
records and the mark `refused` (R80), the parameters (00_scope.md R9), and the model's own fields; the reset state
(10_state.md R90); and the reasons a step can stop.
-/

namespace Sys2Proof.Machine

/-! ### Ten channels and three SIF channels -/

/-- One value for each channel (10_state.md R20). -/
structure PerChan (α : Type) where
  vif0 : α
  vif1 : α
  gif  : α
  ipu0 : α
  ipu1 : α
  sif0 : α
  sif1 : α
  sif2 : α
  spr0 : α
  spr1 : α
  deriving DecidableEq, Repr

/-- The same value for every channel. -/
def PerChan.all {α : Type} (a : α) : PerChan α := ⟨a, a, a, a, a, a, a, a, a, a⟩

/-- The value for channel `c`. -/
def PerChan.get {α : Type} (p : PerChan α) : Ch → α
  | .vif0 => p.vif0 | .vif1 => p.vif1 | .gif => p.gif | .ipu0 => p.ipu0 | .ipu1 => p.ipu1
  | .sif0 => p.sif0 | .sif1 => p.sif1 | .sif2 => p.sif2 | .spr0 => p.spr0 | .spr1 => p.spr1

/-- Replaces the value for channel `c`. -/
def PerChan.set {α : Type} (p : PerChan α) (c : Ch) (a : α) : PerChan α :=
  match c with
  | .vif0 => { p with vif0 := a } | .vif1 => { p with vif1 := a } | .gif => { p with gif := a }
  | .ipu0 => { p with ipu0 := a } | .ipu1 => { p with ipu1 := a } | .sif0 => { p with sif0 := a }
  | .sif1 => { p with sif1 := a } | .sif2 => { p with sif2 := a } | .spr0 => { p with spr0 := a }
  | .spr1 => { p with spr1 := a }

/-- One value for each SIF channel. -/
structure PerSif (α : Type) where
  sif0 : α
  sif1 : α
  sif2 : α
  deriving DecidableEq, Repr

/-- The same value for every SIF channel. -/
def PerSif.all {α : Type} (a : α) : PerSif α := ⟨a, a, a⟩

/-- The value for SIF channel `s`. -/
def PerSif.get {α : Type} (p : PerSif α) : Sif → α
  | .sif0 => p.sif0 | .sif1 => p.sif1 | .sif2 => p.sif2

/-- Replaces the value for SIF channel `s`. -/
def PerSif.set {α : Type} (p : PerSif α) (s : Sif) (a : α) : PerSif α :=
  match s with
  | .sif0 => { p with sif0 := a } | .sif1 => { p with sif1 := a } | .sif2 => { p with sif2 := a }

/-! ### Registers -/

/-- The seven registers of a channel (10_state.md R20). QWC is held as its 16-bit count: bits 31:16 of the register
read as 0 (R25, 30_encoding.md R167). -/
structure Chan where
  chcr : Word
  madr : Word
  qwc  : BitVec 16
  tadr : Word
  asr0 : Word
  asr1 : Word
  sadr : Word
  deriving DecidableEq, Repr

/-- The global registers (10_state.md R30 to R36). -/
structure Globals where
  ctrl    : Word
  stat    : Word
  pcr     : Word
  sqwc    : Word
  rbsr    : Word
  rbor    : Word
  stadr   : Word
  enablew : Word
  enabler : Word
  deriving DecidableEq, Repr

/-! ### Engines -/

/-- The phases of an engine (10_state.md R40). -/
inductive Phase where
  | idle | queued | tagFetch | transfer | stalled | parked | completing
  /-- Channels 0..2 only: the external pump runs. -/
  | external
  deriving DecidableEq, Repr

/-- The latched mode of a run (10_state.md R40). -/
inductive Mode where
  | normal | srcChain | dstChain | interleave
  deriving DecidableEq, Repr

/-- The engine record E[c] (10_state.md R40). Channels 0..2 use only `phase` (log 15). -/
structure Engine where
  phase  : Phase
  mode   : Mode
  /-- Quadwords left in the current unit, 0..0x10000. -/
  rem    : Nat
  /-- The end flag `E[c].end`: the current link is the last. -/
  last   : Bool
  /-- Quadwords moved in the current interleave block. -/
  blk    : Nat
  /-- The current destination-chain link is a CNTS link. -/
  cnts   : Bool
  /-- Timing-only accumulated cycles. -/
  cycles : Nat
  deriving DecidableEq, Repr

/-! ### SIF and IPU -/

/-- The IOP half's record `sif[s].iop` (10_state.md R51). -/
structure IopHalf where
  busy      : Bool
  /-- `iop.end`: the IOP chain ends after the current IOP link. -/
  last      : Bool
  counter   : Nat
  writeJunk : Nat
  /-- Timing-only. -/
  cycles    : Nat
  deriving DecidableEq, Repr

/-- The state of one SIF channel other than its EE engine (10_state.md R43, R51, R52). -/
structure SifChan where
  /-- `sif[s].fifo`, oldest word first (43_fifo_sif.md R400). -/
  fifo    : List Word
  iop     : IopHalf
  iopMadr : Word
  /-- Used by SIF0 only. -/
  iopTadr : Word
  /-- The event slot `iopEv[s]`. -/
  iopEv   : Option Nat
  deriving DecidableEq, Repr

/-- The IPU interface (10_state.md R55 to R57); the FIFOs oldest quadword first. -/
structure Ipu where
  inFifo        : List Quad
  outFifo       : List Quad
  dataRequested : Bool
  deriving DecidableEq, Repr

/-! ### Memories -/

/-- A byte array, as the list of the bytes that differ from `Memory.unlisted`, addresses strictly rising. -/
abbrev Memory := List Host.Cell

/-- A region of `DmaExtraRegions` with its content (00_scope.md R9, 20_memory.md R101). -/
structure ExtraRegion where
  base     : Nat
  size     : Nat
  writable : Bool
  mem      : Memory
  deriving DecidableEq, Repr

/-- The DMA-reachable memories (10_state.md R60). -/
structure Memories where
  ram    : Memory
  spr    : Memory
  iopRam : Memory
  extra  : List ExtraRegion
  deriving DecidableEq, Repr

/-! ### VTLB -/

/-- The permission of the generated code page (10_state.md R71); RX is "executable, not writable" (90_conflicts.md
C7). -/
inductive CodePerm where
  | none | rw | rx
  deriving DecidableEq, Repr

/-- The VTLB state (10_state.md R70, R71). -/
structure Vtlb where
  /-- The entries the MMU model has written since reset, page numbers strictly rising; any other page has its entry
  of `Config.vtlbInitialMap` (log 11). -/
  vmap     : List (Nat × VtlbEntry)
  init     : Bool
  /-- The selectors whose dispatcher has been generated. `Disp(s)` is a constant of `s` (44_vtlb.md R505), so the
  selectors are the table. -/
  dispatch : List (BitVec 5)
  codePerm : CodePerm
  genCount : Nat
  deriving DecidableEq, Repr

/-! ### Fault records, refusals and the model's own fields -/

/-- Which FIFO a FIFO fault is about (43_fifo_sif.md R401). -/
inductive FifoId where
  | sif (s : Sif) | ipuIn | ipuOut
  deriving DecidableEq, Repr

/-- A model fault record (10_state.md R80, 60_exceptions.md R602). -/
inductive FaultRecord where
  | unsupportedMode (c : Ch) (m : BitVec 2)
  | fifoOverflow (f : FifoId) (n : Nat)
  | fifoUnderflow (f : FifoId) (n : Nat)
  deriving DecidableEq, Repr

/-- Refusals: the model gives the access no meaning, as the spec says (60_exceptions.md R602). A refusal of the spec first
marks the state (10_state.md R80), and the next step answers it (log 7). -/
inductive Refusal where
  /-- Raised by `exec` for an instruction that has no meaning yet. Safe. -/
  | notModelled (mnemonic : String)
  /-- Marked by an MMIO access that is not 32-bit, not word-aligned, or outside the DMAC register pages
  (40_registers.md R202). Safe: the spec refuses it. -/
  | unmodelledAccess (addr : Word) (w : Width)
  /-- Marked by a dispatcher access whose address is not a multiple of its width (44_vtlb.md R493). Safe: the spec
  refuses it. -/
  | misalignedAccess (va : Word) (w : Width)
  /-- Marked by `step` for a selector outside the dispatcher set (44_vtlb.md R496). Safe: the spec refuses it. -/
  | notADispatcher (sel : BitVec 5)
  /-- Marked by `step` for an instruction with fewer bytes than it has; every agent gives all of them, so no step marks
  it. Safe. -/
  | truncated
  /-- Marked by a dispatcher used before `vtlb_dynarec_init()` (44_vtlb.md R507). Safe: the spec refuses it. -/
  | dispatchBeforeInit (va : Word) (w : Width)
  deriving DecidableEq, Repr

/-- The value the last host read or load returned (log 13). -/
inductive Returned where
  | nothing
  | word (v : Word)
  | dword (v : BitVec 64)
  | quad (v : Quad)
  deriving DecidableEq, Repr

/-- A call out of the block to an agent whose behaviour is external (log 13). -/
inductive Output where
  /-- A read of a handler other than the DMAC's (44_vtlb.md R491). -/
  | handlerRead (h : HandlerId) (w : Width) (paddr : Word)
  /-- A write of a handler other than the DMAC's: `v` is the value's low `w` bits (44_vtlb.md R492). -/
  | handlerWrite (h : HandlerId) (w : Width) (paddr : Word) (v : Quad)
  /-- `PSX_INT(s, d)` fired: the IOP DMAC's end of transfer (60_exceptions.md R612). -/
  | psxInt (s : Sif)
  deriving DecidableEq, Repr

/-- The model's own fields: who moves next, how many free values have been drawn, and the two output ports
(log 1, log 2, log 13). -/
structure Env where
  agenda : List Action
  draws  : Nat
  ret    : Returned
  out    : Option Output
  deriving DecidableEq, Repr

/-! ### The state -/

/-- The state of the block. -/
structure State where
  /-- D[c], the channel registers. -/
  chan   : PerChan Chan
  /-- G, the global registers. -/
  g      : Globals
  /-- Gen[a], the generic cells that are not 0, addresses strictly rising (10_state.md R37). -/
  gen    : List (Nat × Word)
  /-- E[c], the engines. -/
  eng    : PerChan Engine
  /-- QueuedDMA, bit c for channel c (10_state.md R42). -/
  queued : BitVec 10
  /-- ev[c], the deferred EE events (10_state.md R43). -/
  ev     : PerChan (Option Nat)
  /-- The SIF channels' FIFOs and IOP halves. -/
  sif    : PerSif SifChan
  ipu    : Ipu
  mem    : Memories
  vtlb   : Vtlb
  /-- The set of model fault records, each listed once (10_state.md R80). -/
  faults : List FaultRecord
  /-- The mark `refused`: false is `none`, and true is the refusal that set it (10_state.md R80; log 7). -/
  refused : Option Refusal
  /-- The parameters; no step changes them (00_scope.md R9). -/
  params : Params
  /-- The model's own fields. -/
  env    : Env
  deriving DecidableEq, Repr

/-! ### Why a step stops -/

/-- Faults: the machine stops. -/
inductive Fault where
  /-- Raised by `step` when `faults` is not empty: from such a state no agent has an enabled step
  (42_channel_engines.md R322). Safe: the spec's own model stops there too. -/
  | stopped (r : FaultRecord)
  deriving DecidableEq, Repr

/-- The outcome of a step of this machine. -/
abbrev Result := Host.Outcome State Fault Refusal

/-! ### Reset (10_state.md R90, 70_reset_and_hazards.md R700) -/

/-- A channel's registers after reset: all 0 (10_state.md R21 to R26). -/
def Chan.reset : Chan := ⟨0, 0, 0, 0, 0, 0, 0⟩

/-- An engine after reset (10_state.md R40). -/
def Engine.reset : Engine := ⟨.idle, .normal, 0, false, 0, false, 0⟩

/-- The global registers after reset: all 0 (10_state.md R30 to R36). -/
def Globals.reset : Globals := ⟨0, 0, 0, 0, 0, 0, 0, 0, 0⟩

/-- A SIF channel after reset (10_state.md R43, R51, R52). -/
def SifChan.reset : SifChan := ⟨[], ⟨false, false, 0, 0, 0⟩, 0, 0, none⟩

/-- The VTLB after reset: uninitialised, with `VtlbInitialMap` (10_state.md R70, R71). -/
def Vtlb.reset : Vtlb := ⟨[], false, [], .none, 0⟩

/-- The machine right after reset with the spec's default parameters. Memory is not reset; with no launch content
placed, nothing is listed (log 4). -/
def State.reset : State where
  chan   := .all .reset
  g      := .reset
  gen    := []
  eng    := .all .reset
  queued := 0
  ev     := .all none
  sif    := .all .reset
  ipu    := ⟨[], [], false⟩
  mem    := ⟨[], [], [], []⟩
  vtlb   := .reset
  faults := []
  refused := none
  params := .default
  env    := ⟨[], 0, .nothing, none⟩

end Sys2Proof.Machine
end

