-- ==== Sys2Proof/Machine/Flags.lean ====
section
/-!
DEFINITION. The fields of CHCR, CTRL, STAT, SQWC and ENABLER (30_encoding.md R160 to R179), the predicates of
10_state.md R38, how a host write changes STAT (40_registers.md R232), and the DMAC interrupt line (60_exceptions.md
R605).
-/

namespace Sys2Proof.Machine

/-- `v` with bit `i` set to `b`. -/
def withBit {w : Nat} (v : BitVec w) (i : Nat) (b : Bool) : BitVec w :=
  if b then v ||| (1#w <<< i) else v &&& ~~~(1#w <<< i)

/-! ### CHCR (30_encoding.md R160) -/

/-- DIR, bit 0: 0 = to memory, 1 = from memory (R161). -/
def chcrDir (v : Word) : Bool := v.getLsbD 0
/-- MOD, bits 3:2. -/
def chcrMod (v : Word) : BitVec 2 := v.extractLsb' 2 2
/-- ASP, bits 5:4. -/
def chcrAsp (v : Word) : BitVec 2 := v.extractLsb' 4 2
/-- TTE, bit 6. -/
def chcrTte (v : Word) : Bool := v.getLsbD 6
/-- TIE, bit 7. -/
def chcrTie (v : Word) : Bool := v.getLsbD 7
/-- STR, bit 8. -/
def chcrStr (v : Word) : Bool := v.getLsbD 8
/-- TAG, bits 31:16. -/
def chcrTag (v : Word) : BitVec 16 := v.extractLsb' 16 16
/-- The cached ID, CHCR[30:28]. -/
def chcrId (v : Word) : BitVec 3 := v.extractLsb' 28 3
/-- The cached IRQ, CHCR[31]. -/
def chcrIrq (v : Word) : Bool := v.getLsbD 31

/-- CHCR with STR set to `b`. -/
def chcrWithStr (v : Word) (b : Bool) : Word := withBit v 8 b
/-- CHCR with MOD set to `m`. -/
def chcrWithMod (v : Word) (m : BitVec 2) : Word := (v &&& ~~~0x0000000C#32) ||| (m.setWidth 32 <<< 2)
/-- CHCR with ASP set to `p`. -/
def chcrWithAsp (v : Word) (p : BitVec 2) : Word := (v &&& ~~~0x00000030#32) ||| (p.setWidth 32 <<< 4)
/-- CHCR with TAG set to `h` (41_tag_walker.md R281). -/
def chcrWithTag (v : Word) (h : BitVec 16) : Word := h ++ v.setWidth 16

/-! ### CTRL (30_encoding.md R170, R171) -/

/-- DMAE, bit 0. -/
def ctrlDmae (v : Word) : Bool := v.getLsbD 0
/-- MFD, bits 3:2. -/
def ctrlMfd (v : Word) : BitVec 2 := v.extractLsb' 2 2
/-- STS, bits 5:4. -/
def ctrlSts (v : Word) : BitVec 2 := v.extractLsb' 4 2
/-- STD, bits 7:6. -/
def ctrlStd (v : Word) : BitVec 2 := v.extractLsb' 6 2

/-- `StallSrc(G.CTRL)` (R171). -/
def stallSrc (ctrl : Word) : Option Ch :=
  match (ctrlSts ctrl).toNat with
  | 1 => some .sif0 | 2 => some .spr0 | 3 => some .ipu0 | _ => none

/-- `StallDrain(G.CTRL)` (R171). -/
def stallDrain (ctrl : Word) : Option Ch :=
  match (ctrlStd ctrl).toNat with
  | 1 => some .vif1 | 2 => some .gif | 3 => some .sif1 | _ => none

/-- `MfifoOn(G.CTRL)` (R171): MFD is 2 or 3. -/
def mfifoOn (ctrl : Word) : Bool := ctrlMfd ctrl == 2 || ctrlMfd ctrl == 3

/-! ### ENABLER, SQWC -/

/-- CPND, bit 16 of ENABLEW and ENABLER: 1 = suspended (R179). -/
def cpnd (v : Word) : Bool := v.getLsbD 16
/-- SQWC[7:0], the skip count (R176). -/
def sqwcSkip (v : Word) : BitVec 8 := v.extractLsb' 0 8
/-- TQWC, SQWC[23:16], the transfer count (R176). -/
def sqwcTq (v : Word) : Nat := (v.extractLsb' 16 8).toNat

/-! ### The predicates of 10_state.md R38 -/

/-- `DmacEnabled`. -/
def State.dmacEnabled (s : State) : Bool := ctrlDmae s.g.ctrl
/-- `DmacSuspended`. -/
def State.dmacSuspended (s : State) : Bool := cpnd s.g.enabler
/-- `DmacRunnable`. -/
def State.dmacRunnable (s : State) : Bool := s.dmacEnabled && !s.dmacSuspended

/-! ### STAT (30_encoding.md R175, 60_exceptions.md R601) -/

/-- STAT bit of SIS. -/
def statSis : Nat := 13
/-- STAT bit of MEIS. -/
def statMeis : Nat := 14
/-- STAT bit of BEIS. -/
def statBeis : Nat := 15

/-- A host write of `v` to STAT: the low half clears on 1, the high half toggles on 1 (40_registers.md R232). -/
def statAfterWrite (stat v : Word) : Word :=
  (stat.extractLsb' 16 16 ^^^ v.extractLsb' 16 16) ++ (stat.setWidth 16 &&& ~~~(v.setWidth 16))

/-- `DmacIntLine` as a function of STAT (60_exceptions.md R605). -/
def dmacIntLine (stat : Word) : Bool :=
  (stat.extractLsb' 0 10 &&& stat.extractLsb' 16 10) != 0
    || (stat.getLsbD 13 && stat.getLsbD 29)
    || (stat.getLsbD 14 && stat.getLsbD 30)
    || stat.getLsbD 15

end Sys2Proof.Machine
end

