-- ==== Sys2Proof/Machine/Ops.lean ====
section
/-!
DEFINITION. The named operations the meanings are written with: memory cells, register and engine updates, FIFOs
(43_fifo_sif.md R400, R401), free values, event slots (60_exceptions.md R610), `hwDmacIrq` (R604), and the three ways
a run leaves the busy state: bus error (41_tag_walker.md R286), completion (60_exceptions.md R606) and force-stop
(40_registers.md R211).
-/

namespace Sys2Proof.Machine

/-! ### Cells: a sorted list of (address, value) with a default for unlisted addresses -/

/-- The value at `a`, `d` where none is listed. -/
def cellGet {α : Type} (d : α) : List (Nat × α) → Nat → α
  | [], _ => d
  | (k, v) :: rest, a => if k = a then v else cellGet d rest a

/-- Lists `v` at `a`, in address order. -/
def cellInsert {α : Type} : List (Nat × α) → Nat → α → List (Nat × α)
  | [], a, v => [(a, v)]
  | (k, x) :: rest, a, v =>
    if a < k then (a, v) :: (k, x) :: rest
    else if a = k then (a, v) :: rest
    else (k, x) :: cellInsert rest a v

/-- Removes the entry at `a`. -/
def cellErase {α : Type} (l : List (Nat × α)) (a : Nat) : List (Nat × α) :=
  l.filter fun c => c.1 != a

/-- Writes `v` at `a`, keeping no entry equal to the default `d`. -/
def cellPut {α : Type} [DecidableEq α] (d : α) (l : List (Nat × α)) (a : Nat) (v : α) : List (Nat × α) :=
  if v = d then cellErase l a else cellInsert l a v

/-- The canonical form: addresses strictly rising, no entry equal to the default. -/
abbrev cellsWf {α : Type} (d : α) (l : List (Nat × α)) : Prop :=
  l.Pairwise (fun x y => x.1 < y.1) ∧ ∀ c ∈ l, c.2 ≠ d

/-! ### Memory -/

/-- What a byte nothing has written reads as: 0 (10_state.md R60 leaves the launch content open; log 4). -/
def Memory.unlisted : Byte := 0

/-- The byte at `a`. -/
def Memory.read (m : Memory) (a : Nat) : Byte := cellGet Memory.unlisted m a

/-- Memory with the byte at `a` replaced. -/
def Memory.write (m : Memory) (a : Nat) (v : Byte) : Memory := cellPut Memory.unlisted m a v

/-- The canonical form of memory. -/
abbrev Memory.wf (m : Memory) : Prop := cellsWf Memory.unlisted m

/-- The bytes at `a`, `a+1`, …, `a+n-1`. -/
def Memory.readBytes (m : Memory) (a : Nat) : Nat → List Byte
  | 0 => []
  | n + 1 => m.read a :: Memory.readBytes m (a + 1) n

/-- Memory with the listed bytes written from `a` on. -/
def Memory.writeBytes (m : Memory) (a : Nat) : List Byte → Memory
  | [] => m
  | b :: bs => Memory.writeBytes (m.write a b) (a + 1) bs

/-- A backing memory of 10_state.md R60; an extra region that does not exist holds nothing. -/
def Memories.get (m : Memories) : Region → Memory
  | .ram => m.ram
  | .spr => m.spr
  | .iopRam => m.iopRam
  | .extra i => ((m.extra[i]?).map ExtraRegion.mem).getD []

/-- Replaces a backing memory. -/
def Memories.set (m : Memories) (r : Region) (x : Memory) : Memories :=
  match r with
  | .ram => { m with ram := x }
  | .spr => { m with spr := x }
  | .iopRam => { m with iopRam := x }
  | .extra i => { m with extra := m.extra.modify i fun e => { e with mem := x } }

/-- A byte of a backing memory. -/
def State.readByte (s : State) (r : Region) (a : Nat) : Byte := (s.mem.get r).read a

/-- `MemRead((r, a), n)`, little-endian (00_scope.md R15, 20_memory.md R110), zero-extended to 128 bits. -/
def State.memRead (s : State) (r : Region) (a n : Nat) : Quad := ofLeBytes ((s.mem.get r).readBytes a n)

/-- `MemWrite((r, a), n, v)`, little-endian (00_scope.md R15, 20_memory.md R110). -/
def State.memWrite (s : State) (r : Region) (a n : Nat) (v : Quad) : State :=
  { s with mem := s.mem.set r ((s.mem.get r).writeBytes a (leBytes n v)) }

/-- How many bytes a backing memory has (10_state.md R60). -/
def State.regionSize (s : State) : Region → Nat
  | .ram => s.params.ramSize
  | .spr => s.params.sprSize
  | .iopRam => s.params.iopRamSize
  | .extra i => ((s.mem.extra[i]?).map ExtraRegion.size).getD 0

/-! ### Updates of one part of the state -/

/-- Updates the registers of channel `c`. -/
def State.updChan (s : State) (c : Ch) (f : Chan → Chan) : State :=
  { s with chan := s.chan.set c (f (s.chan.get c)) }

/-- Updates the engine record of channel `c`. -/
def State.updEng (s : State) (c : Ch) (f : Engine → Engine) : State :=
  { s with eng := s.eng.set c (f (s.eng.get c)) }

/-- Updates SIF channel `f`. -/
def State.updSif (s : State) (f : Sif) (u : SifChan → SifChan) : State :=
  { s with sif := s.sif.set f (u (s.sif.get f)) }

/-- Sets bit c of QueuedDMA. -/
def State.setQueued (s : State) (c : Ch) (b : Bool) : State :=
  { s with queued := withBit s.queued c.num b }

/-- QueuedDMA[c]. -/
def State.isQueued (s : State) (c : Ch) : Bool := s.queued.getLsbD c.num

/-- Sets the event slot ev[c] (60_exceptions.md R610). -/
def State.setEv (s : State) (c : Ch) (e : Option Nat) : State := { s with ev := s.ev.set c e }

/-- Replaces the global registers. -/
def State.setG (s : State) (g : Globals) : State := { s with g := g }

/-- The value the host's read or load returns (log 13). -/
def State.setRet (s : State) (r : Returned) : State := { s with env := { s.env with ret := r } }

/-- A call out of the block (log 13). -/
def State.setOut (s : State) (o : Output) : State := { s with env := { s.env with out := some o } }

/-- CHCR.STR of channel `c`, the sole authority for whether it is busy (10_state.md R21). -/
def State.str (s : State) (c : Ch) : Bool := chcrStr (s.chan.get c).chcr

/-- Records a model fault in the set `faults` (10_state.md R80). -/
def State.addFault (s : State) (r : FaultRecord) : State :=
  { s with faults := if r ∈ s.faults then s.faults else s.faults ++ [r] }

/-- `refuse r`: marks the state, and changes nothing else (10_state.md R80, 60_exceptions.md R602; log 7). -/
def State.refuse (s : State) (r : Refusal) : State := { s with refused := some r }

/-! ### Free values -/

/-- One unspecified word (a draw; log 2). -/
def State.draw (s : State) : Word × State :=
  (Config.freeWord s.env.draws, { s with env := { s.env with draws := s.env.draws + 1 } })

/-- `n` unspecified words. -/
def State.drawN (s : State) : Nat → List Word × State
  | 0 => ([], s)
  | n + 1 =>
    let (w, s1) := s.draw
    let (ws, s2) := s1.drawN n
    (w :: ws, s2)

/-! ### FIFOs (43_fifo_sif.md R400, R401) -/

/-- `FifoSize(sif[f].fifo)`. -/
def State.sifSize (s : State) (f : Sif) : Nat := (s.sif.get f).fifo.length
/-- `FifoFree(sif[f].fifo)`. -/
def State.sifFree (s : State) (f : Sif) : Nat := s.params.sifFifoWords - s.sifSize f
/-- `FifoFree(ipu.inFifo)`. -/
def State.ipuInFree (s : State) : Nat := s.params.ipuFifoQw - s.ipu.inFifo.length
/-- `FifoFree(ipu.outFifo)`. -/
def State.ipuOutFree (s : State) : Nat := s.params.ipuFifoQw - s.ipu.outFifo.length

/-- `FifoPush(sif[f].fifo, ws)`. -/
def State.sifPush (s : State) (f : Sif) (ws : List Word) : State :=
  if ws.length > s.sifFree f then s.addFault (.fifoOverflow (.sif f) ws.length)
  else s.updSif f fun x => { x with fifo := x.fifo ++ ws }

/-- `FifoPop(sif[f].fifo, n)`. -/
def State.sifPop (s : State) (f : Sif) (n : Nat) : List Word × State :=
  if n > s.sifSize f then ([], s.addFault (.fifoUnderflow (.sif f) n))
  else ((s.sif.get f).fifo.take n, s.updSif f fun x => { x with fifo := x.fifo.drop n })

/-- `FifoPush(ipu.inFifo, [q])`. -/
def State.ipuInPush (s : State) (q : Quad) : State :=
  if 1 > s.ipuInFree then s.addFault (.fifoOverflow .ipuIn 1)
  else { s with ipu := { s.ipu with inFifo := s.ipu.inFifo ++ [q] } }

/-- `FifoPush(ipu.outFifo, [q])`. -/
def State.ipuOutPush (s : State) (q : Quad) : State :=
  if 1 > s.ipuOutFree then s.addFault (.fifoOverflow .ipuOut 1)
  else { s with ipu := { s.ipu with outFifo := s.ipu.outFifo ++ [q] } }

/-- `FifoPop(ipu.inFifo, 1)`; the IPU's use of the quadword is external. -/
def State.ipuInPop (s : State) : State :=
  match s.ipu.inFifo with
  | [] => s.addFault (.fifoUnderflow .ipuIn 1)
  | _ :: rest => { s with ipu := { s.ipu with inFifo := rest } }

/-- `FifoPop(ipu.outFifo, 1)`. -/
def State.ipuOutPop (s : State) : Quad × State :=
  match s.ipu.outFifo with
  | [] => (0, s.addFault (.fifoUnderflow .ipuOut 1))
  | q :: rest => (q, { s with ipu := { s.ipu with outFifo := rest } })

/-! ### Status bits and events -/

/-- `hwDmacIrq(b)`: STAT[b] <- 1 (60_exceptions.md R604). -/
def State.hwDmacIrq (s : State) (b : Nat) : State :=
  { s with g := { s.g with stat := withBit s.g.stat b true } }

/-- The delay of a deferred event: zero-cycle interrupts are forbidden (42_channel_engines.md R370). -/
def eventDelay (cycles : Nat) : Nat := max 1 cycles

/-! ### How a run ends -/

/-- `raise BusError(c)` (41_tag_walker.md R286): the block's one error entry. BEIS is set, the channel is no longer
busy, its pending event and queued start are dropped; no other register changes and CIS[c] is not set. -/
def State.busError (s : State) (c : Ch) : State :=
  (((((s.hwDmacIrq statBeis).updChan c fun d => { d with chcr := chcrWithStr d.chcr false }).updEng c
    fun e => { e with phase := .idle, last := false, rem := 0 }).setEv c none).setQueued c false)

/-- The completion of a run when its event fires (60_exceptions.md R606): the slot empties, STR clears, the engine is
Idle and CIS[c] is set. -/
def State.complete (s : State) (c : Ch) : State :=
  (((s.setEv c none).updChan c fun d => { d with chcr := chcrWithStr d.chcr false }).updEng c
    fun e => { e with phase := .idle, last := false, rem := 0, blk := 0 }).hwDmacIrq c.num

/-- Force-stop (40_registers.md R211): a write of CHCR value `v` with STR = 0 to a busy channel. -/
def State.forceStop (s : State) (c : Ch) (v : Word) : State :=
  ((((s.updChan c fun d => { d with chcr := v }).setEv c none).setQueued c false).updEng c
    fun e => { e with phase := .idle, last := false, rem := 0, blk := 0 })

/-- `EnterCompleting(c)` (42_channel_engines.md R370). -/
def State.enterCompleting (s : State) (c : Ch) : State :=
  (s.updEng c fun e => { e with phase := .completing }).setEv c (some (eventDelay (s.eng.get c).cycles))

/-- `EndEE(c)` of a SIF channel (43_fifo_sif.md R414). -/
def State.endEE (s : State) (c : Ch) : State :=
  (s.updEng c fun e => { e with phase := .completing, cycles := 0, last := false }).setEv c
    (some (eventDelay (s.eng.get c).cycles))

/-- `EndIOP(f)` (43_fifo_sif.md R415), with the halving quirk of 70_reset_and_hazards.md R733 on SIF0. -/
def State.endIOP (s : State) (f : Sif) : State :=
  s.updSif f fun x =>
    let cycles :=
      if f = .sif0 ∧ s.params.sif0IopCyclesHalf = true then x.iop.cycles / 2 else x.iop.cycles
    { x with
      iopEv := some (eventDelay cycles)
      iop := { x.iop with busy := false, last := false, cycles := 0 } }

end Sys2Proof.Machine
end

