-- ==== Sys2Proof/Machine/Operands.lean ====
section
/-!
DEFINITION. The operand forms: DMA-space addresses (20_memory.md R101 to R104), the memory-side address of an engine and
its advance (42_channel_engines.md R327), scratchpad offsets (20_memory.md R103), IOP addresses (R105), and the VTLB
lookup (44_vtlb.md R480, R485).
-/

namespace Sys2Proof.Machine

/-- A resolved location: a backing memory and a byte offset in it. -/
structure Loc where
  region : Region
  off    : Nat
  deriving DecidableEq, Repr

/-- The first region of `rs` (numbered from `i`) that holds `p` and, for a write, is writable (20_memory.md R101). -/
def extraAt (rs : List ExtraRegion) (i p : Nat) (write : Bool) : Option Loc :=
  match rs with
  | [] => none
  | r :: rest =>
    if r.base ≤ p ∧ p < r.base + r.size ∧ (write = false ∨ r.writable = true) then some ⟨.extra i, p - r.base⟩
    else extraAt rest (i + 1) p write

/-- The scratchpad offset of a quadword: `a & 0x3FF0` (20_memory.md R103). -/
def sprOffset (a : Word) : Nat := (a &&& 0x3FF0).toNat

/-- `DmaAddr(a, write)` (20_memory.md R101): scratchpad for bit 31, else RAM, else an extra region, else nothing. -/
def State.dmaAddr (s : State) (a : Word) (write : Bool) : Option Loc :=
  if a.getLsbD 31 then some ⟨.spr, sprOffset a⟩
  else
    let p := (a &&& 0x1FFFFFF0).toNat
    if p < s.params.ramSize then some ⟨.ram, p⟩ else extraAt s.mem.extra 0 p write

/-- `MfifoAddr(a)` (42_channel_engines.md R327). Bits 3:0 are RBOR's, where 20_memory.md R104 says that MADR keeps its own
(log 30). -/
def mfifoAddr (g : Globals) (a : Word) : Word :=
  (g.rbor &&& 0x7FFFFFFF) + (a &&& g.rbsr &&& 0x7FFFFFF0)

/-- `MemAddr(c)` (42_channel_engines.md R327): only SPR0 uses the MFIFO form. -/
def State.memAddr (s : State) (c : Ch) : Word :=
  if c = .spr0 ∧ mfifoOn s.g.ctrl = true then mfifoAddr s.g (s.chan.get c).madr else (s.chan.get c).madr

/-- `AdvanceMadr(c)` (42_channel_engines.md R327). -/
def State.advanceMadr (s : State) (c : Ch) : State :=
  s.updChan c fun d =>
    if c = .spr0 ∧ mfifoOn s.g.ctrl = true then { d with madr := mfifoAddr s.g (d.madr + 16) }
    else { d with madr := d.madr + 16 }

/-- SADR after a quadword: `(SADR + 16) & 0x3FF0` (20_memory.md R103, 30_encoding.md R168). Bits 3:0 become 0, where
20_memory.md R104 says that they stay (log 30). -/
def sadrNext (a : Word) : Word := (a + 16) &&& 0x3FF0

/-- Advances SADR of channel `c`. -/
def State.advanceSadr (s : State) (c : Ch) : State :=
  s.updChan c fun d => { d with sadr := sadrNext d.sadr }

/-- The IOP RAM offset of a word access: `(a & 0x00FF_FFFC) mod IopRamSize` (20_memory.md R105). -/
def State.iopOffset (s : State) (a : Word) : Nat := (a &&& 0x00FFFFFC).toNat % s.params.iopRamSize

/-- `IopRead(a, 4)` (20_memory.md R105). -/
def State.iopRead (s : State) (a : Word) : Word := (s.memRead .iopRam (s.iopOffset a) 4).setWidth 32

/-- `IopWrite(a, 4, v)` (20_memory.md R105). -/
def State.iopWrite (s : State) (a v : Word) : State :=
  s.memWrite .iopRam (s.iopOffset a) 4 (v.setWidth 128)

/-- The words at `a`, `a+4`, …, `n` of them. -/
def State.iopReadN (s : State) (a : Word) : Nat → List Word
  | 0 => []
  | n + 1 => s.iopRead a :: s.iopReadN (a + 4) n

/-- Writes the words at `a`, `a+4`, … -/
def State.iopWriteN (s : State) (a : Word) : List Word → State
  | [] => s
  | w :: ws => (s.iopWrite a w).iopWriteN (a + 4) ws

/-- What a guest address resolves to (44_vtlb.md R485). -/
inductive Resolved where
  | direct (r : Region) (off : Nat)
  | handler (h : HandlerId) (paddr : Word)
  deriving DecidableEq, Repr

/-- The entry of page `p`: the one the MMU model wrote last, else that of `VtlbInitialMap` (10_state.md R70). -/
def State.vtlbEntry (s : State) (p : Nat) : VtlbEntry :=
  cellGet (Config.vtlbInitialMap p) s.vtlb.vmap p

/-- `VtlbLookup(va)` (44_vtlb.md R485). The guest address is the low `VaddrBits` bits of `va` (R480; log 5). -/
def State.vtlbLookup (s : State) (va : Word) : Resolved :=
  let o := va.toNat % 2 ^ s.params.vtlbPageBits
  match s.vtlbEntry (va.toNat % 2 ^ s.params.vaddrBits / 2 ^ s.params.vtlbPageBits) with
  | .direct r off => .direct r (off + o)
  | .handler h pb => .handler h (pb + BitVec.ofNat 32 o)

end Sys2Proof.Machine
end

