-- ==== Sys2Proof/Machine/DmaExec.lean ====
section
/-!
DEFINITION. The DmaExec contract: what a write of CHCR does (40_registers.md R210 to R216), the start of an engine
(42_channel_engines.md R320, R321, 41_tag_walker.md R285, R290), and the drain of queued starts (40_registers.md R245).
-/

namespace Sys2Proof.Machine

/-- `Supported(c, m)` (42_channel_engines.md R321, 30_encoding.md R162). -/
def supported (c : Ch) (m : BitVec 2) : Bool :=
  match c with
  | .ipu0 | .sif2 => m == 0
  | .ipu1 | .sif0 | .sif1 => m == 0 || m == 1
  | .spr0 | .spr1 => m == 0 || m == 1 || m == 2
  | .vif0 | .vif1 | .gif => false

/-- The mode a run of channel `c` latches for MOD `m` (42_channel_engines.md R320). -/
def modeOf (c : Ch) (m : BitVec 2) : Mode :=
  if m = 0 then .normal
  else if m = 2 then .interleave
  else if c = .sif0 ∨ c = .spr0 then .dstChain else .srcChain

/-- `NormalCount(q)` (42_channel_engines.md R320, 41_tag_walker.md R290). -/
def State.normalCount (s : State) (q : BitVec 16) : Nat :=
  if q = 0 ∧ s.params.normalQwc0Full = true then 0x10000 else q.toNat

/-- `EndFromCachedTag(c)` for a run latched in `mode` with CHCR value `v` (41_tag_walker.md R285): IDs REFE 0, RET 6,
END 7. -/
def endFromCachedTag (mode : Mode) (v : Word) : Bool :=
  (mode == .srcChain && (chcrId v == 0 || chcrId v == 7 || (chcrId v == 6 && chcrAsp v == 0)))
    || (mode == .dstChain && chcrId v == 7)
    || (chcrTie v && chcrIrq v)

/-- The engine record a start leaves, from the record before it, CHCR and QWC (42_channel_engines.md R320). -/
def State.startedEngine (s : State) (c : Ch) : Engine :=
  let d := s.chan.get c
  let mode := modeOf c (chcrMod d.chcr)
  let e := { s.eng.get c with cycles := 0, blk := 0, cnts := false, mode := mode }
  match mode with
  | .normal => { e with rem := s.normalCount d.qwc, last := true, phase := .transfer }
  | .interleave => { e with rem := d.qwc.toNat, last := true, phase := .transfer }
  | .srcChain | .dstChain =>
    if d.qwc.toNat > 0 then
      { e with rem := d.qwc.toNat, phase := .transfer, last := endFromCachedTag mode d.chcr }
    else { e with phase := .tagFetch, last := false }

/-- `Start(c)` (42_channel_engines.md R320); `SifStartHook` changes nothing (43_fifo_sif.md R410). A mode the channel
does not support is the model fault of R322, and CHCR stays as committed. -/
def State.start (s : State) (c : Ch) : State :=
  let m := chcrMod (s.chan.get c).chcr
  if supported c m then s.updEng c fun _ => s.startedEngine c
  else s.addFault (.unsupportedMode c m)

/-- `StartChannel(c)` (40_registers.md R215). A start with MOD = 3 that the quirk does not coerce faults on every channel:
R214 and 42_channel_engines.md R322 set no limit, and on channels 0..2 the model takes them before R215's External
(log 29). -/
def State.startChannel (s : State) (c : Ch) : State :=
  if c.inScope then s.start c
  else if chcrMod (s.chan.get c).chcr = 3 ∧ s.params.mod3AsChain = false then s.addFault (.unsupportedMode c 3)
  else s.updEng c fun e => { e with phase := .external }

/-- `QueueChannel(c)` (40_registers.md R216). -/
def State.queueChannel (s : State) (c : Ch) : State :=
  (s.setQueued c true).updEng c fun e => { e with phase := .queued }

/-- The MOD = 3 coercion of a CHCR value at commit (40_registers.md R214). -/
def State.coerceMod (s : State) (v : Word) : Word :=
  if chcrMod v = 3 ∧ s.params.mod3AsChain = true then chcrWithMod v 1 else v

/-- `DmaExec(c, v)` (40_registers.md R210, R211, R212). -/
def State.dmaExec (s : State) (c : Ch) (v : Word) : State :=
  if s.str c then
    if chcrStr v then s else s.forceStop c v
  else if chcrStr v then
    let s1 := s.updChan c fun d => { d with chcr := s.coerceMod v }
    if s1.dmacRunnable then s1.startChannel c else s1.queueChannel c
  else s.updChan c fun d => { d with chcr := v }

/-- One channel of `DrainQueued()`. -/
def State.drainOne (s : State) (c : Ch) : State :=
  if s.isQueued c && s.str c && s.dmacRunnable then (s.setQueued c false).startChannel c else s

/-- `DrainQueued()` (40_registers.md R245), channels in ascending order. -/
def State.drainQueued (s : State) : State := Ch.all.foldl State.drainOne s

end Sys2Proof.Machine
end

