-- ==== Sys2Proof/Machine/Registers.lean ====
section
/-!
DEFINITION. The register model: host reads and writes of the DMAC registers (40_registers.md R200 to R241), as shared
operations. `dmacRead32` and `dmacWrite32` are the DMAC handler's 32-bit accesses, which the VTLB calls too
(10_state.md R72).
-/

namespace Sys2Proof.Machine

/-! ### Reads (40_registers.md R201): no side effect -/

/-- A channel register; QWC reads its 16-bit count with bits 31:16 zero (30_encoding.md R167). -/
def Chan.read (d : Chan) : ChanReg → Word
  | .chcr => d.chcr
  | .madr => d.madr
  | .qwc => d.qwc.setWidth 32
  | .tadr => d.tadr
  | .asr0 => d.asr0
  | .asr1 => d.asr1
  | .sadr => d.sadr

/-- A global register. -/
def Globals.read (g : Globals) : GlobalReg → Word
  | .ctrl => g.ctrl
  | .stat => g.stat
  | .pcr => g.pcr
  | .sqwc => g.sqwc
  | .rbsr => g.rbsr
  | .rbor => g.rbor
  | .stadr => g.stadr
  | .enabler => g.enabler
  | .enablew => g.enablew

/-- A generic cell, 0 where nothing has been written (10_state.md R37). -/
def State.genRead (s : State) (a : Word) : Word := cellGet 0 s.gen a.toNat

/-! ### Writes -/

/-- A channel register other than CHCR with value `v` stored (40_registers.md R203). QWC keeps `v[15:0]`, as R203,
10_state.md R25 and 30_encoding.md R167 say; 92_eei_decisions.md D11 says that bits 31:16 are stored (log 9). -/
def Chan.write (d : Chan) (r : ChanReg) (v : Word) : Chan :=
  match r with
  | .chcr => { d with chcr := v }
  | .madr => { d with madr := v }
  | .qwc => { d with qwc := v.setWidth 16 }
  | .tadr => { d with tadr := v }
  | .asr0 => { d with asr0 := v }
  | .asr1 => { d with asr1 := v }
  | .sadr => { d with sadr := v }

/-- `ChanRegWrite(c, R, v)` (40_registers.md R203): dropped while the channel is busy. -/
def State.chanRegWrite (s : State) (c : Ch) (r : ChanReg) (v : Word) : State :=
  if s.str c then s else s.updChan c fun d => d.write r v

/-- A host write of register `r` of channel `c` (40_registers.md R200). -/
def State.chanWrite (s : State) (c : Ch) (r : ChanReg) (v : Word) : State :=
  match r with
  | .chcr => s.dmaExec c v
  | _ => s.chanRegWrite c r v

/-- A write of CTRL (40_registers.md R230): DMAE 0 to 1 drains the queued starts. -/
def State.ctrlWrite (s : State) (v : Word) : State :=
  let s1 := s.setG { s.g with ctrl := v }
  if ctrlDmae s.g.ctrl = false ∧ ctrlDmae v = true then s1.drainQueued else s1

/-- A write of STAT (40_registers.md R232). -/
def State.statWrite (s : State) (v : Word) : State :=
  s.setG { s.g with stat := statAfterWrite s.g.stat v }

/-- A write of ENABLEW (40_registers.md R240): mirrored into ENABLER; bit 16 from 1 to 0 drains the queued starts. -/
def State.enablewWrite (s : State) (v : Word) : State :=
  let s1 := s.setG { s.g with enablew := v, enabler := v }
  if cpnd s.g.enablew = true ∧ cpnd v = false then s1.drainQueued else s1

/-- A host write of a global register (40_registers.md R230 to R241); ENABLER ignores writes (R241). -/
def State.globalWrite (s : State) (g : GlobalReg) (v : Word) : State :=
  match g with
  | .ctrl => s.ctrlWrite v
  | .stat => s.statWrite v
  | .pcr => s.setG { s.g with pcr := v }
  | .sqwc => s.setG { s.g with sqwc := v }
  | .rbsr => s.setG { s.g with rbsr := v }
  | .rbor => s.setG { s.g with rbor := v }
  | .stadr => s.setG { s.g with stadr := v }
  | .enabler => s
  | .enablew => s.enablewWrite v

/-- A host write of a generic cell (40_registers.md R204). -/
def State.genWrite (s : State) (a v : Word) : State := { s with gen := cellPut 0 s.gen a.toNat v }

/-! ### The DMAC handler's 32-bit accesses -/

/-- `dmacRead32(addr)` (40_registers.md R201); none where R202 refuses. -/
def State.dmacRead32 (s : State) (addr : Word) : Option Word :=
  match decodeMmio addr with
  | .chan c r => some ((s.chan.get c).read r)
  | .global g => some (s.g.read g)
  | .generic a => some (s.genRead a)
  | .unaligned | .outside => none

/-- `dmacWrite32(addr, v)` (40_registers.md R200); none where R202 refuses. -/
def State.dmacWrite32 (s : State) (addr v : Word) : Option State :=
  match decodeMmio addr with
  | .chan c r => some (s.chanWrite c r v)
  | .global g => some (s.globalWrite g v)
  | .generic a => some (s.genWrite a v)
  | .unaligned | .outside => none

/-! ### The meanings' shared forms -/

/-- A register write that completes. -/
def swChan (c : Ch) (r : ChanReg) (v : Word) (s : State) : Result := .next (s.chanWrite c r v)

/-- A channel-register read: the value goes to the host, nothing else changes. -/
def lwChan (c : Ch) (r : ChanReg) (s : State) : Result := .next (s.setRet (.word ((s.chan.get c).read r)))

/-- A global-register write. -/
def swGlobal (g : GlobalReg) (v : Word) (s : State) : Result := .next (s.globalWrite g v)

/-- A global-register read. -/
def lwGlobal (g : GlobalReg) (s : State) : Result := .next (s.setRet (.word (s.g.read g)))

end Sys2Proof.Machine
end

