-- ==== Sys2Proof/Machine/ChanRegs.lean ====
section
/-!
DEFINITION. The meanings of the 140 channel-register operations (40_registers.md R200, R201, R203, R210 to R216), one
definition per row of the opcode table over the shared operations of Registers.lean.
-/

namespace Sys2Proof.Machine

/-! ### Channel 0, VIF0 -/

/-- `SW D0_CHCR` (40_registers.md R210 to R216). -/
def execSwD0Chcr (v : Word) (s : State) : Result := swChan .vif0 .chcr v s
/-- `LW D0_CHCR` (40_registers.md R201). -/
def execLwD0Chcr (s : State) : Result := lwChan .vif0 .chcr s
/-- `SW D0_MADR` (40_registers.md R203). -/
def execSwD0Madr (v : Word) (s : State) : Result := swChan .vif0 .madr v s
/-- `LW D0_MADR` (40_registers.md R201). -/
def execLwD0Madr (s : State) : Result := lwChan .vif0 .madr s
/-- `SW D0_QWC` (40_registers.md R203). -/
def execSwD0Qwc (v : Word) (s : State) : Result := swChan .vif0 .qwc v s
/-- `LW D0_QWC` (40_registers.md R201). -/
def execLwD0Qwc (s : State) : Result := lwChan .vif0 .qwc s
/-- `SW D0_TADR` (40_registers.md R203). -/
def execSwD0Tadr (v : Word) (s : State) : Result := swChan .vif0 .tadr v s
/-- `LW D0_TADR` (40_registers.md R201). -/
def execLwD0Tadr (s : State) : Result := lwChan .vif0 .tadr s
/-- `SW D0_ASR0` (40_registers.md R203). -/
def execSwD0Asr0 (v : Word) (s : State) : Result := swChan .vif0 .asr0 v s
/-- `LW D0_ASR0` (40_registers.md R201). -/
def execLwD0Asr0 (s : State) : Result := lwChan .vif0 .asr0 s
/-- `SW D0_ASR1` (40_registers.md R203). -/
def execSwD0Asr1 (v : Word) (s : State) : Result := swChan .vif0 .asr1 v s
/-- `LW D0_ASR1` (40_registers.md R201). -/
def execLwD0Asr1 (s : State) : Result := lwChan .vif0 .asr1 s
/-- `SW D0_SADR` (40_registers.md R203). -/
def execSwD0Sadr (v : Word) (s : State) : Result := swChan .vif0 .sadr v s
/-- `LW D0_SADR` (40_registers.md R201). -/
def execLwD0Sadr (s : State) : Result := lwChan .vif0 .sadr s

/-! ### Channel 1, VIF1 -/

/-- `SW D1_CHCR` (40_registers.md R210 to R216). -/
def execSwD1Chcr (v : Word) (s : State) : Result := swChan .vif1 .chcr v s
/-- `LW D1_CHCR` (40_registers.md R201). -/
def execLwD1Chcr (s : State) : Result := lwChan .vif1 .chcr s
/-- `SW D1_MADR` (40_registers.md R203). -/
def execSwD1Madr (v : Word) (s : State) : Result := swChan .vif1 .madr v s
/-- `LW D1_MADR` (40_registers.md R201). -/
def execLwD1Madr (s : State) : Result := lwChan .vif1 .madr s
/-- `SW D1_QWC` (40_registers.md R203). -/
def execSwD1Qwc (v : Word) (s : State) : Result := swChan .vif1 .qwc v s
/-- `LW D1_QWC` (40_registers.md R201). -/
def execLwD1Qwc (s : State) : Result := lwChan .vif1 .qwc s
/-- `SW D1_TADR` (40_registers.md R203). -/
def execSwD1Tadr (v : Word) (s : State) : Result := swChan .vif1 .tadr v s
/-- `LW D1_TADR` (40_registers.md R201). -/
def execLwD1Tadr (s : State) : Result := lwChan .vif1 .tadr s
/-- `SW D1_ASR0` (40_registers.md R203). -/
def execSwD1Asr0 (v : Word) (s : State) : Result := swChan .vif1 .asr0 v s
/-- `LW D1_ASR0` (40_registers.md R201). -/
def execLwD1Asr0 (s : State) : Result := lwChan .vif1 .asr0 s
/-- `SW D1_ASR1` (40_registers.md R203). -/
def execSwD1Asr1 (v : Word) (s : State) : Result := swChan .vif1 .asr1 v s
/-- `LW D1_ASR1` (40_registers.md R201). -/
def execLwD1Asr1 (s : State) : Result := lwChan .vif1 .asr1 s
/-- `SW D1_SADR` (40_registers.md R203). -/
def execSwD1Sadr (v : Word) (s : State) : Result := swChan .vif1 .sadr v s
/-- `LW D1_SADR` (40_registers.md R201). -/
def execLwD1Sadr (s : State) : Result := lwChan .vif1 .sadr s

/-! ### Channel 2, GIF -/

/-- `SW D2_CHCR` (40_registers.md R210 to R216). -/
def execSwD2Chcr (v : Word) (s : State) : Result := swChan .gif .chcr v s
/-- `LW D2_CHCR` (40_registers.md R201). -/
def execLwD2Chcr (s : State) : Result := lwChan .gif .chcr s
/-- `SW D2_MADR` (40_registers.md R203). -/
def execSwD2Madr (v : Word) (s : State) : Result := swChan .gif .madr v s
/-- `LW D2_MADR` (40_registers.md R201). -/
def execLwD2Madr (s : State) : Result := lwChan .gif .madr s
/-- `SW D2_QWC` (40_registers.md R203). -/
def execSwD2Qwc (v : Word) (s : State) : Result := swChan .gif .qwc v s
/-- `LW D2_QWC` (40_registers.md R201). -/
def execLwD2Qwc (s : State) : Result := lwChan .gif .qwc s
/-- `SW D2_TADR` (40_registers.md R203). -/
def execSwD2Tadr (v : Word) (s : State) : Result := swChan .gif .tadr v s
/-- `LW D2_TADR` (40_registers.md R201). -/
def execLwD2Tadr (s : State) : Result := lwChan .gif .tadr s
/-- `SW D2_ASR0` (40_registers.md R203). -/
def execSwD2Asr0 (v : Word) (s : State) : Result := swChan .gif .asr0 v s
/-- `LW D2_ASR0` (40_registers.md R201). -/
def execLwD2Asr0 (s : State) : Result := lwChan .gif .asr0 s
/-- `SW D2_ASR1` (40_registers.md R203). -/
def execSwD2Asr1 (v : Word) (s : State) : Result := swChan .gif .asr1 v s
/-- `LW D2_ASR1` (40_registers.md R201). -/
def execLwD2Asr1 (s : State) : Result := lwChan .gif .asr1 s
/-- `SW D2_SADR` (40_registers.md R203). -/
def execSwD2Sadr (v : Word) (s : State) : Result := swChan .gif .sadr v s
/-- `LW D2_SADR` (40_registers.md R201). -/
def execLwD2Sadr (s : State) : Result := lwChan .gif .sadr s

/-! ### Channel 3, IPU0 -/

/-- `SW D3_CHCR` (40_registers.md R210 to R216). -/
def execSwD3Chcr (v : Word) (s : State) : Result := swChan .ipu0 .chcr v s
/-- `LW D3_CHCR` (40_registers.md R201). -/
def execLwD3Chcr (s : State) : Result := lwChan .ipu0 .chcr s
/-- `SW D3_MADR` (40_registers.md R203). -/
def execSwD3Madr (v : Word) (s : State) : Result := swChan .ipu0 .madr v s
/-- `LW D3_MADR` (40_registers.md R201). -/
def execLwD3Madr (s : State) : Result := lwChan .ipu0 .madr s
/-- `SW D3_QWC` (40_registers.md R203). -/
def execSwD3Qwc (v : Word) (s : State) : Result := swChan .ipu0 .qwc v s
/-- `LW D3_QWC` (40_registers.md R201). -/
def execLwD3Qwc (s : State) : Result := lwChan .ipu0 .qwc s
/-- `SW D3_TADR` (40_registers.md R203). -/
def execSwD3Tadr (v : Word) (s : State) : Result := swChan .ipu0 .tadr v s
/-- `LW D3_TADR` (40_registers.md R201). -/
def execLwD3Tadr (s : State) : Result := lwChan .ipu0 .tadr s
/-- `SW D3_ASR0` (40_registers.md R203). -/
def execSwD3Asr0 (v : Word) (s : State) : Result := swChan .ipu0 .asr0 v s
/-- `LW D3_ASR0` (40_registers.md R201). -/
def execLwD3Asr0 (s : State) : Result := lwChan .ipu0 .asr0 s
/-- `SW D3_ASR1` (40_registers.md R203). -/
def execSwD3Asr1 (v : Word) (s : State) : Result := swChan .ipu0 .asr1 v s
/-- `LW D3_ASR1` (40_registers.md R201). -/
def execLwD3Asr1 (s : State) : Result := lwChan .ipu0 .asr1 s
/-- `SW D3_SADR` (40_registers.md R203). -/
def execSwD3Sadr (v : Word) (s : State) : Result := swChan .ipu0 .sadr v s
/-- `LW D3_SADR` (40_registers.md R201). -/
def execLwD3Sadr (s : State) : Result := lwChan .ipu0 .sadr s

/-! ### Channel 4, IPU1 -/

/-- `SW D4_CHCR` (40_registers.md R210 to R216). -/
def execSwD4Chcr (v : Word) (s : State) : Result := swChan .ipu1 .chcr v s
/-- `LW D4_CHCR` (40_registers.md R201). -/
def execLwD4Chcr (s : State) : Result := lwChan .ipu1 .chcr s
/-- `SW D4_MADR` (40_registers.md R203). -/
def execSwD4Madr (v : Word) (s : State) : Result := swChan .ipu1 .madr v s
/-- `LW D4_MADR` (40_registers.md R201). -/
def execLwD4Madr (s : State) : Result := lwChan .ipu1 .madr s
/-- `SW D4_QWC` (40_registers.md R203). -/
def execSwD4Qwc (v : Word) (s : State) : Result := swChan .ipu1 .qwc v s
/-- `LW D4_QWC` (40_registers.md R201). -/
def execLwD4Qwc (s : State) : Result := lwChan .ipu1 .qwc s
/-- `SW D4_TADR` (40_registers.md R203). -/
def execSwD4Tadr (v : Word) (s : State) : Result := swChan .ipu1 .tadr v s
/-- `LW D4_TADR` (40_registers.md R201). -/
def execLwD4Tadr (s : State) : Result := lwChan .ipu1 .tadr s
/-- `SW D4_ASR0` (40_registers.md R203). -/
def execSwD4Asr0 (v : Word) (s : State) : Result := swChan .ipu1 .asr0 v s
/-- `LW D4_ASR0` (40_registers.md R201). -/
def execLwD4Asr0 (s : State) : Result := lwChan .ipu1 .asr0 s
/-- `SW D4_ASR1` (40_registers.md R203). -/
def execSwD4Asr1 (v : Word) (s : State) : Result := swChan .ipu1 .asr1 v s
/-- `LW D4_ASR1` (40_registers.md R201). -/
def execLwD4Asr1 (s : State) : Result := lwChan .ipu1 .asr1 s
/-- `SW D4_SADR` (40_registers.md R203). -/
def execSwD4Sadr (v : Word) (s : State) : Result := swChan .ipu1 .sadr v s
/-- `LW D4_SADR` (40_registers.md R201). -/
def execLwD4Sadr (s : State) : Result := lwChan .ipu1 .sadr s

/-! ### Channel 5, SIF0 -/

/-- `SW D5_CHCR` (40_registers.md R210 to R216). -/
def execSwD5Chcr (v : Word) (s : State) : Result := swChan .sif0 .chcr v s
/-- `LW D5_CHCR` (40_registers.md R201). -/
def execLwD5Chcr (s : State) : Result := lwChan .sif0 .chcr s
/-- `SW D5_MADR` (40_registers.md R203). -/
def execSwD5Madr (v : Word) (s : State) : Result := swChan .sif0 .madr v s
/-- `LW D5_MADR` (40_registers.md R201). -/
def execLwD5Madr (s : State) : Result := lwChan .sif0 .madr s
/-- `SW D5_QWC` (40_registers.md R203). -/
def execSwD5Qwc (v : Word) (s : State) : Result := swChan .sif0 .qwc v s
/-- `LW D5_QWC` (40_registers.md R201). -/
def execLwD5Qwc (s : State) : Result := lwChan .sif0 .qwc s
/-- `SW D5_TADR` (40_registers.md R203). -/
def execSwD5Tadr (v : Word) (s : State) : Result := swChan .sif0 .tadr v s
/-- `LW D5_TADR` (40_registers.md R201). -/
def execLwD5Tadr (s : State) : Result := lwChan .sif0 .tadr s
/-- `SW D5_ASR0` (40_registers.md R203). -/
def execSwD5Asr0 (v : Word) (s : State) : Result := swChan .sif0 .asr0 v s
/-- `LW D5_ASR0` (40_registers.md R201). -/
def execLwD5Asr0 (s : State) : Result := lwChan .sif0 .asr0 s
/-- `SW D5_ASR1` (40_registers.md R203). -/
def execSwD5Asr1 (v : Word) (s : State) : Result := swChan .sif0 .asr1 v s
/-- `LW D5_ASR1` (40_registers.md R201). -/
def execLwD5Asr1 (s : State) : Result := lwChan .sif0 .asr1 s
/-- `SW D5_SADR` (40_registers.md R203). -/
def execSwD5Sadr (v : Word) (s : State) : Result := swChan .sif0 .sadr v s
/-- `LW D5_SADR` (40_registers.md R201). -/
def execLwD5Sadr (s : State) : Result := lwChan .sif0 .sadr s

/-! ### Channel 6, SIF1 -/

/-- `SW D6_CHCR` (40_registers.md R210 to R216). -/
def execSwD6Chcr (v : Word) (s : State) : Result := swChan .sif1 .chcr v s
/-- `LW D6_CHCR` (40_registers.md R201). -/
def execLwD6Chcr (s : State) : Result := lwChan .sif1 .chcr s
/-- `SW D6_MADR` (40_registers.md R203). -/
def execSwD6Madr (v : Word) (s : State) : Result := swChan .sif1 .madr v s
/-- `LW D6_MADR` (40_registers.md R201). -/
def execLwD6Madr (s : State) : Result := lwChan .sif1 .madr s
/-- `SW D6_QWC` (40_registers.md R203). -/
def execSwD6Qwc (v : Word) (s : State) : Result := swChan .sif1 .qwc v s
/-- `LW D6_QWC` (40_registers.md R201). -/
def execLwD6Qwc (s : State) : Result := lwChan .sif1 .qwc s
/-- `SW D6_TADR` (40_registers.md R203). -/
def execSwD6Tadr (v : Word) (s : State) : Result := swChan .sif1 .tadr v s
/-- `LW D6_TADR` (40_registers.md R201). -/
def execLwD6Tadr (s : State) : Result := lwChan .sif1 .tadr s
/-- `SW D6_ASR0` (40_registers.md R203). -/
def execSwD6Asr0 (v : Word) (s : State) : Result := swChan .sif1 .asr0 v s
/-- `LW D6_ASR0` (40_registers.md R201). -/
def execLwD6Asr0 (s : State) : Result := lwChan .sif1 .asr0 s
/-- `SW D6_ASR1` (40_registers.md R203). -/
def execSwD6Asr1 (v : Word) (s : State) : Result := swChan .sif1 .asr1 v s
/-- `LW D6_ASR1` (40_registers.md R201). -/
def execLwD6Asr1 (s : State) : Result := lwChan .sif1 .asr1 s
/-- `SW D6_SADR` (40_registers.md R203). -/
def execSwD6Sadr (v : Word) (s : State) : Result := swChan .sif1 .sadr v s
/-- `LW D6_SADR` (40_registers.md R201). -/
def execLwD6Sadr (s : State) : Result := lwChan .sif1 .sadr s

/-! ### Channel 7, SIF2 -/

/-- `SW D7_CHCR` (40_registers.md R210 to R216). -/
def execSwD7Chcr (v : Word) (s : State) : Result := swChan .sif2 .chcr v s
/-- `LW D7_CHCR` (40_registers.md R201). -/
def execLwD7Chcr (s : State) : Result := lwChan .sif2 .chcr s
/-- `SW D7_MADR` (40_registers.md R203). -/
def execSwD7Madr (v : Word) (s : State) : Result := swChan .sif2 .madr v s
/-- `LW D7_MADR` (40_registers.md R201). -/
def execLwD7Madr (s : State) : Result := lwChan .sif2 .madr s
/-- `SW D7_QWC` (40_registers.md R203). -/
def execSwD7Qwc (v : Word) (s : State) : Result := swChan .sif2 .qwc v s
/-- `LW D7_QWC` (40_registers.md R201). -/
def execLwD7Qwc (s : State) : Result := lwChan .sif2 .qwc s
/-- `SW D7_TADR` (40_registers.md R203). -/
def execSwD7Tadr (v : Word) (s : State) : Result := swChan .sif2 .tadr v s
/-- `LW D7_TADR` (40_registers.md R201). -/
def execLwD7Tadr (s : State) : Result := lwChan .sif2 .tadr s
/-- `SW D7_ASR0` (40_registers.md R203). -/
def execSwD7Asr0 (v : Word) (s : State) : Result := swChan .sif2 .asr0 v s
/-- `LW D7_ASR0` (40_registers.md R201). -/
def execLwD7Asr0 (s : State) : Result := lwChan .sif2 .asr0 s
/-- `SW D7_ASR1` (40_registers.md R203). -/
def execSwD7Asr1 (v : Word) (s : State) : Result := swChan .sif2 .asr1 v s
/-- `LW D7_ASR1` (40_registers.md R201). -/
def execLwD7Asr1 (s : State) : Result := lwChan .sif2 .asr1 s
/-- `SW D7_SADR` (40_registers.md R203). -/
def execSwD7Sadr (v : Word) (s : State) : Result := swChan .sif2 .sadr v s
/-- `LW D7_SADR` (40_registers.md R201). -/
def execLwD7Sadr (s : State) : Result := lwChan .sif2 .sadr s

/-! ### Channel 8, SPR0 -/

/-- `SW D8_CHCR` (40_registers.md R210 to R216). -/
def execSwD8Chcr (v : Word) (s : State) : Result := swChan .spr0 .chcr v s
/-- `LW D8_CHCR` (40_registers.md R201). -/
def execLwD8Chcr (s : State) : Result := lwChan .spr0 .chcr s
/-- `SW D8_MADR` (40_registers.md R203). -/
def execSwD8Madr (v : Word) (s : State) : Result := swChan .spr0 .madr v s
/-- `LW D8_MADR` (40_registers.md R201). -/
def execLwD8Madr (s : State) : Result := lwChan .spr0 .madr s
/-- `SW D8_QWC` (40_registers.md R203). -/
def execSwD8Qwc (v : Word) (s : State) : Result := swChan .spr0 .qwc v s
/-- `LW D8_QWC` (40_registers.md R201). -/
def execLwD8Qwc (s : State) : Result := lwChan .spr0 .qwc s
/-- `SW D8_TADR` (40_registers.md R203). -/
def execSwD8Tadr (v : Word) (s : State) : Result := swChan .spr0 .tadr v s
/-- `LW D8_TADR` (40_registers.md R201). -/
def execLwD8Tadr (s : State) : Result := lwChan .spr0 .tadr s
/-- `SW D8_ASR0` (40_registers.md R203). -/
def execSwD8Asr0 (v : Word) (s : State) : Result := swChan .spr0 .asr0 v s
/-- `LW D8_ASR0` (40_registers.md R201). -/
def execLwD8Asr0 (s : State) : Result := lwChan .spr0 .asr0 s
/-- `SW D8_ASR1` (40_registers.md R203). -/
def execSwD8Asr1 (v : Word) (s : State) : Result := swChan .spr0 .asr1 v s
/-- `LW D8_ASR1` (40_registers.md R201). -/
def execLwD8Asr1 (s : State) : Result := lwChan .spr0 .asr1 s
/-- `SW D8_SADR` (40_registers.md R203). -/
def execSwD8Sadr (v : Word) (s : State) : Result := swChan .spr0 .sadr v s
/-- `LW D8_SADR` (40_registers.md R201). -/
def execLwD8Sadr (s : State) : Result := lwChan .spr0 .sadr s

/-! ### Channel 9, SPR1 -/

/-- `SW D9_CHCR` (40_registers.md R210 to R216). -/
def execSwD9Chcr (v : Word) (s : State) : Result := swChan .spr1 .chcr v s
/-- `LW D9_CHCR` (40_registers.md R201). -/
def execLwD9Chcr (s : State) : Result := lwChan .spr1 .chcr s
/-- `SW D9_MADR` (40_registers.md R203). -/
def execSwD9Madr (v : Word) (s : State) : Result := swChan .spr1 .madr v s
/-- `LW D9_MADR` (40_registers.md R201). -/
def execLwD9Madr (s : State) : Result := lwChan .spr1 .madr s
/-- `SW D9_QWC` (40_registers.md R203). -/
def execSwD9Qwc (v : Word) (s : State) : Result := swChan .spr1 .qwc v s
/-- `LW D9_QWC` (40_registers.md R201). -/
def execLwD9Qwc (s : State) : Result := lwChan .spr1 .qwc s
/-- `SW D9_TADR` (40_registers.md R203). -/
def execSwD9Tadr (v : Word) (s : State) : Result := swChan .spr1 .tadr v s
/-- `LW D9_TADR` (40_registers.md R201). -/
def execLwD9Tadr (s : State) : Result := lwChan .spr1 .tadr s
/-- `SW D9_ASR0` (40_registers.md R203). -/
def execSwD9Asr0 (v : Word) (s : State) : Result := swChan .spr1 .asr0 v s
/-- `LW D9_ASR0` (40_registers.md R201). -/
def execLwD9Asr0 (s : State) : Result := lwChan .spr1 .asr0 s
/-- `SW D9_ASR1` (40_registers.md R203). -/
def execSwD9Asr1 (v : Word) (s : State) : Result := swChan .spr1 .asr1 v s
/-- `LW D9_ASR1` (40_registers.md R201). -/
def execLwD9Asr1 (s : State) : Result := lwChan .spr1 .asr1 s
/-- `SW D9_SADR` (40_registers.md R203). -/
def execSwD9Sadr (v : Word) (s : State) : Result := swChan .spr1 .sadr v s
/-- `LW D9_SADR` (40_registers.md R201). -/
def execLwD9Sadr (s : State) : Result := lwChan .spr1 .sadr s

end Sys2Proof.Machine
end

