-- ==== Sys2Proof/Machine/Tags.lean ====
section
/-!
DEFINITION. The tag-chain walker: the source-chain tag fetch (41_tag_walker.md R261 to R282), stall control (R295) and
the destination-chain tag read (R298 to R303). A tag's meaning is the part of the fetch step after the tag quadword has
been read; the step itself (its guard, the resolution of TADR, the reading of the stream) is in Agents.lean.
-/

namespace Sys2Proof.Machine

/-! ### Source chain -/

/-- The address after this tag's data, `T + 16 + 16·Q` (41_tag_walker.md R263, R270). -/
def afterData (T : Word) (q : BitVec 16) : Word := T + 16 + 16 * q.setWidth 32

/-- What the rule of one ID gives, from the tag's address `T` (41_tag_walker.md R262 to R272): the registers after it,
and `last`. RET also leaves a draw in the popped register, so the rules act on the state. -/
abbrev IdRule := (c : Ch) → (T : Word) → (t : Tag) → State → State × Bool

/-- REFE (R262). -/
def ruleRefe : IdRule := fun c T _ s => (s.updChan c fun d => { d with tadr := T + 16 }, true)

/-- CNT (R263). -/
def ruleCnt : IdRule := fun c T t s =>
  (s.updChan c fun d => { d with madr := T + 16, tadr := afterData T t.qwc }, false)

/-- NEXT (R264). -/
def ruleNext : IdRule := fun c T t s => (s.updChan c fun d => { d with madr := T + 16, tadr := t.a }, false)

/-- REF (R265), and REFS once its stall check has passed (R266). -/
def ruleRef : IdRule := fun c T _ s => (s.updChan c fun d => { d with tadr := T + 16 }, false)

/-- CALL (R270): pushes the address after the link's data; a full stack (ASP 2 or 3) ends the chain. -/
def ruleCall : IdRule := fun c T t s =>
  match (chcrAsp (s.chan.get c).chcr).toNat with
  | 0 => (s.updChan c fun d =>
      { d with madr := T + 16, asr0 := afterData T t.qwc, chcr := chcrWithAsp d.chcr 1, tadr := t.a }, false)
  | 1 => (s.updChan c fun d =>
      { d with madr := T + 16, asr1 := afterData T t.qwc, chcr := chcrWithAsp d.chcr 2, tadr := t.a }, false)
  | _ => (s.updChan c fun d => { d with madr := T + 16 }, true)

/-- RET (R271): pops; the popped register then holds a draw; an empty stack (ASP 0 or 3) ends the chain. -/
def ruleRet : IdRule := fun c T _ s =>
  match (chcrAsp (s.chan.get c).chcr).toNat with
  | 2 =>
    let (w, s1) := s.draw
    (s1.updChan c fun d =>
      { d with madr := T + 16, tadr := d.asr1, chcr := chcrWithAsp d.chcr 1, asr1 := w }, false)
  | 1 =>
    let (w, s1) := s.draw
    (s1.updChan c fun d =>
      { d with madr := T + 16, tadr := d.asr0, chcr := chcrWithAsp d.chcr 0, asr0 := w }, false)
  | _ => (s.updChan c fun d => { d with madr := T + 16 }, true)

/-- END (R272): TADR keeps pointing at the tag. -/
def ruleEnd : IdRule := fun c T _ s => (s.updChan c fun d => { d with madr := T + 16 }, true)

/-- `TteAction(c, tagqw)` (41_tag_walker.md R282; SPR1 R366, SIF1 43_fifo_sif.md R438; IPU1 sends nothing). -/
def State.tteAction (s : State) (c : SrcCh) (q : Quad) : State :=
  if chcrTte (s.chan.get c.toCh).chcr then
    match c with
    | .ipu1 => s
    | .sif1 => s.sifPush .sif1 [wordOf q 2, wordOf q 3]
    | .spr1 => (s.memWrite .spr (sprOffset (s.chan.get .spr1).sadr) 16 q).advanceSadr .spr1
  else s

/-- The source-chain fetch step after the tag quadword has been read (41_tag_walker.md R261): the tag bits are cached,
QWC and MADR are loaded, the ID's rule runs, TIE with IRQ makes the link the last (R280), TTE sends the tag (R282). -/
def State.takeSrcTag (s : State) (c : SrcCh) (id : BitVec 3) (t : Tag) (rule : IdRule) : State :=
  let k := c.toCh
  let T := (s.chan.get k).tadr
  let s1 := s.updChan k fun d => { d with chcr := chcrWithTag d.chcr (t.tagH id), qwc := t.qwc, madr := t.a }
  let (s2, last0) := rule k T t s1
  let last := last0 || (chcrTie (s2.chan.get k).chcr && t.irq == 1)
  let s3 := s2.updEng k fun e => { e with last := last }
  (s3.tteAction c (t.quad id)).updEng k fun e => { e with rem := t.qwc.toNat, phase := .transfer }

/-- `StallBlocked(A, Q)` (41_tag_walker.md R295): on natural numbers, no wrap. -/
def State.stallBlocked (s : State) (a : Word) (q : BitVec 16) : Bool :=
  (a &&& 0x7FFFFFFF).toNat + 16 * q.toNat > (s.g.stadr &&& 0x7FFFFFFF).toNat

/-- `StallEnter(c)` (41_tag_walker.md R295): SIS is set and the engine stalls; no channel register changes. -/
def State.stallEnter (s : State) (c : Ch) : State :=
  (s.hwDmacIrq statSis).updEng c fun e => { e with phase := .stalled }

/-- `StallSrcUpdate(c)` (41_tag_walker.md R296). -/
def State.stallSrcUpdate (s : State) (c : Ch) : State :=
  let e := s.eng.get c
  if stallSrc s.g.ctrl = some c ∧ (e.mode = .normal ∨ (e.mode = .dstChain ∧ e.cnts = true)) then
    s.setG { s.g with stadr := (s.chan.get c).madr &&& 0x7FFFFFFF }
  else s

/-- `REFE` (R262). -/
def execSrcRefe (c : SrcCh) (t : Tag) (s : State) : Result := .next (s.takeSrcTag c 0 t ruleRefe)
/-- `CNT` (R263). -/
def execSrcCnt (c : SrcCh) (t : Tag) (s : State) : Result := .next (s.takeSrcTag c 1 t ruleCnt)
/-- `NEXT` (R264). -/
def execSrcNext (c : SrcCh) (t : Tag) (s : State) : Result := .next (s.takeSrcTag c 2 t ruleNext)
/-- `REF` (R265). -/
def execSrcRef (c : SrcCh) (t : Tag) (s : State) : Result := .next (s.takeSrcTag c 3 t ruleRef)
/-- `REFS` (R266): the stall-drain channel stalls on it while the link would read past STADR (R295). -/
def execSrcRefs (c : SrcCh) (t : Tag) (s : State) : Result :=
  if stallDrain s.g.ctrl = some c.toCh ∧ s.stallBlocked t.a t.qwc = true then .next (s.stallEnter c.toCh)
  else .next (s.takeSrcTag c 4 t ruleRef)
/-- `CALL` (R270). -/
def execSrcCall (c : SrcCh) (t : Tag) (s : State) : Result := .next (s.takeSrcTag c 5 t ruleCall)
/-- `RET` (R271). -/
def execSrcRet (c : SrcCh) (t : Tag) (s : State) : Result := .next (s.takeSrcTag c 6 t ruleRet)
/-- `END` (R272). -/
def execSrcEnd (c : SrcCh) (t : Tag) (s : State) : Result := .next (s.takeSrcTag c 7 t ruleEnd)

/-! ### Destination chain -/

/-- `DstTagRead(c, qw)` (41_tag_walker.md R298) for a tag with the given ID, `last` and CNTS marks. -/
def State.takeDstTag (s : State) (c : DstCh) (id : BitVec 3) (t : Tag) (last cnts : Bool) : State :=
  let k := c.toCh
  let s1 := s.updChan k fun d => { d with chcr := chcrWithTag d.chcr (t.tagH id), qwc := t.qwc, madr := t.a }
  s1.updEng k fun e =>
    { e with
      last := last || (chcrTie (s1.chan.get k).chcr && t.irq == 1)
      cnts := cnts
      rem := t.qwc.toNat
      phase := .transfer }

/-- `dCNTS` (R301). -/
def execDstCnts (c : DstCh) (t : Tag) (s : State) : Result := .next (s.takeDstTag c 0 t false true)
/-- `dCNT` (R300). -/
def execDstCnt (c : DstCh) (t : Tag) (s : State) : Result := .next (s.takeDstTag c 1 t false false)
/-- `dRSV2` (R303). -/
def execDstRsv2 (c : DstCh) (t : Tag) (s : State) : Result := .next (s.takeDstTag c 2 t false false)
/-- `dRSV3` (R303). -/
def execDstRsv3 (c : DstCh) (t : Tag) (s : State) : Result := .next (s.takeDstTag c 3 t false false)
/-- `dRSV4` (R303). -/
def execDstRsv4 (c : DstCh) (t : Tag) (s : State) : Result := .next (s.takeDstTag c 4 t false false)
/-- `dRSV5` (R303). -/
def execDstRsv5 (c : DstCh) (t : Tag) (s : State) : Result := .next (s.takeDstTag c 5 t false false)
/-- `dRSV6` (R303). -/
def execDstRsv6 (c : DstCh) (t : Tag) (s : State) : Result := .next (s.takeDstTag c 6 t false false)
/-- `dEND` (R302). -/
def execDstEnd (c : DstCh) (t : Tag) (s : State) : Result := .next (s.takeDstTag c 7 t true false)

end Sys2Proof.Machine
end

