-- ==== Sys2Proof/Machine/Engines.lean ====
section
/-!
DEFINITION. The transfer steps of the EE engines (42_channel_engines.md R325 to R366, 43_fifo_sif.md R421, R431, R441):
the bound of a step, the move of one quadword, the per-quadword updates, the interleave skip, and the end of a unit.
-/

namespace Sys2Proof.Machine

/-- The peripheral's limit in quadwords (R325), none where there is none (SPR0, SPR1). -/
def State.peripheralLimit (s : State) (c : Ch) : Option Nat :=
  match c with
  | .ipu0 => some s.ipu.outFifo.length
  | .ipu1 => some (if s.ipu.dataRequested then s.ipuInFree else 0)
  | .sif0 => some (s.sifSize .sif0 / 4)
  | .sif1 => some (s.sifFree .sif1 / 4)
  | .sif2 => some (if chcrDir (s.chan.get .sif2).chcr then s.sifFree .sif2 / 4 else s.sifSize .sif2 / 4)
  | .spr0 | .spr1 => none
  | .vif0 | .vif1 | .gif => some 0

/-- `Bound(c)` (42_channel_engines.md R325). In interleave mode with TQ ≠ 0 it is at most `TQ − blk`, which is nothing
when the host has lowered TQWC to the block count or below (log 16); TQWC is read from SQWC at each step and each
quadword (R331, 40_registers.md R237). -/
def State.bound (s : State) (c : Ch) : Nat :=
  let e := s.eng.get c
  let tq := sqwcTq s.g.sqwc
  let b := if e.mode = .interleave ∧ tq ≠ 0 then min e.rem (tq - e.blk) else e.rem
  match s.peripheralLimit c with
  | some k => min b k
  | none => b

/-- Moves a quadword to EE memory at the engine's address, none on a bus error; the quadword is taken only after the
address has resolved (41_tag_walker.md R286). -/
def State.moveToMemory (s : State) (c : Ch) (take : State → Quad × State) : Option State :=
  match s.dmaAddr (s.memAddr c) true with
  | none => none
  | some l =>
    let (q, s1) := take s
    some ((s1.memWrite l.region l.off 16 q).advanceMadr c)

/-- Moves a quadword from EE memory at the engine's address, none on a bus error. -/
def State.moveFromMemory (s : State) (c : Ch) (give : Quad → State → State) : Option State :=
  match s.dmaAddr (s.memAddr c) false with
  | none => none
  | some l => some ((give (s.memRead l.region l.off 16) s).advanceMadr c)

/-- Takes a quadword off a SIF FIFO (20_memory.md R111). -/
def State.takeSif (f : Sif) (s : State) : Quad × State :=
  let (ws, s1) := s.sifPop f 4
  (quadOf (ws.getD 0 0) (ws.getD 1 0) (ws.getD 2 0) (ws.getD 3 0), s1)

/-- Pushes a quadword into a SIF FIFO, w0 first (20_memory.md R111). -/
def State.giveSif (f : Sif) (q : Quad) (s : State) : State :=
  s.sifPush f [wordOf q 0, wordOf q 1, wordOf q 2, wordOf q 3]

/-- Takes the quadword at SADR off scratchpad (42_channel_engines.md R358). -/
def State.takeSpr (s : State) : Quad × State :=
  (s.memRead .spr (sprOffset (s.chan.get .spr0).sadr) 16, s.advanceSadr .spr0)

/-- Writes a quadword to scratchpad at SADR (42_channel_engines.md R364). -/
def State.giveSpr (q : Quad) (s : State) : State :=
  (s.memWrite .spr (sprOffset (s.chan.get .spr1).sadr) 16 q).advanceSadr .spr1

/-- `MoveOne(c)`, none on a bus error: IPU0 R340, IPU1 R345, SPR0 R358, SPR1 R364, SIF0 43_fifo_sif.md R421, SIF1 R431,
SIF2 R441 by DIR. -/
def State.moveOne (s : State) (c : Ch) : Option State :=
  match c with
  | .ipu0 => s.moveToMemory .ipu0 State.ipuOutPop
  | .ipu1 => s.moveFromMemory .ipu1 fun q s => s.ipuInPush q
  | .sif0 => s.moveToMemory .sif0 (State.takeSif .sif0)
  | .sif1 => s.moveFromMemory .sif1 (State.giveSif .sif1)
  | .sif2 =>
    if chcrDir (s.chan.get .sif2).chcr then s.moveFromMemory .sif2 (State.giveSif .sif2)
    else s.moveToMemory .sif2 (State.takeSif .sif2)
  | .spr0 => s.moveToMemory .spr0 State.takeSpr
  | .spr1 => s.moveFromMemory .spr1 State.giveSpr
  | .vif0 | .vif1 | .gif => none

/-- The updates after each quadword (R325): QWC counts down modulo 2^16 and `rem` by one. -/
def State.countOne (s : State) (c : Ch) : State :=
  (s.updChan c fun d => { d with qwc := d.qwc - 1 }).updEng c fun e => { e with rem := e.rem - 1 }

/-- The interleave updates after each quadword (R331); SADR does not skip. TQWC is compared at each quadword (R331,
40_registers.md R237). The skip count is read at a block boundary and nowhere else, so that a new one takes effect at the
next block boundary (70_reset_and_hazards.md R714, read as speaking of the skip count: log 31). -/
def State.interleaveOne (s : State) (c : Ch) : State :=
  if (s.eng.get c).mode = .interleave then
    let tq := sqwcTq s.g.sqwc
    let e := s.eng.get c
    if (tq ≠ 0 ∧ e.blk + 1 = tq) ∨ e.rem = 0 then
      (s.updChan c fun d => { d with madr := d.madr + 16 * (sqwcSkip s.g.sqwc).setWidth 32 }).updEng c
        fun e => { e with blk := 0 }
    else s.updEng c fun e => { e with blk := e.blk + 1 }
  else s

/-- Moves `n` quadwords one at a time in address order; false where one met a bus error, after which nothing more
happens (R325, 41_tag_walker.md R286). -/
def State.moveN (s : State) (c : Ch) : Nat → State × Bool
  | 0 => (s, true)
  | n + 1 =>
    match s.moveOne c with
    | none => (s.busError c, false)
    | some s1 => ((s1.countOne c).interleaveOne c).moveN c n

/-- Whether channel `c` is a SIF channel. -/
def isSif : Ch → Bool
  | .sif0 | .sif1 | .sif2 => true
  | _ => false

/-- The end of a unit: R329, with R422, R432 and R441 in its place for the SIF channels. -/
def State.endUnit (s : State) (c : Ch) : State :=
  let e := s.eng.get c
  if e.mode = .normal ∨ e.mode = .interleave ∨ e.last = true then
    if isSif c then s.endEE c else s.enterCompleting c
  else s.updEng c fun e => { e with phase := .tagFetch }

/-- Adds a transfer step's timing-only cost for `n` quadwords (R385; log 10). -/
def State.addCycles (s : State) (c : Ch) (n : Nat) : State :=
  s.updEng c fun e => { e with cycles := e.cycles + Config.costEE c n }

/-- A transfer step of `n` quadwords (R325): the moves, then the stall source's update, the cycles, and the end of the
unit if nothing is left. -/
def State.transferStep (s : State) (c : Ch) (n : Nat) : State :=
  match s.moveN c n with
  | (s1, false) => s1
  | (s1, true) =>
    let s2 := (s1.stallSrcUpdate c).addCycles c n
    if (s2.eng.get c).rem = 0 then s2.endUnit c else s2

/-- The draw `n` of R325 brought into `1 .. Bound(c)` (log 3). -/
def chunk (n bound : Nat) : Nat := max 1 (min n bound)

/-- A step in phase Transfer: the end of an empty unit, a transfer, the park of an IPU channel, or a hold (R329, R340,
R341, R345, R346, 43_fifo_sif.md R403). -/
def State.transferPhase (s : State) (c : Ch) (n : Nat) : State :=
  if (s.eng.get c).rem = 0 then s.endUnit c
  else if s.bound c = 0 then
    if c = .ipu0 ∨ c = .ipu1 then s.updEng c fun e => { e with phase := .parked } else s
  else s.transferStep c (chunk n (s.bound c))

/-- The wake condition of a parked engine (R350). -/
def State.wakes (s : State) (c : Ch) : Bool :=
  match c with
  | .ipu0 => s.ipu.outFifo.length > 0
  | .ipu1 => s.ipu.dataRequested && s.ipuInFree > 0
  | _ => false

end Sys2Proof.Machine
end

