-- ==== Sys2Proof/WellFormed.lean ====
section
/-!
DEFINITION. Which terms of Instr are instructions of the block. Every field of a tag or a value is as wide as its
encoding, so only the generic-cell operations need a check: their address must be a generic cell (10_state.md R37,
30_encoding.md R185), that is word-aligned, inside 0x1000_8000..0x1000_EFFC, and no named register.
-/

namespace Sys2Proof

/-- The address of a generic cell `Gen[a]` (30_encoding.md R182, R185). -/
def isGeneric (a : Word) : Bool := decodeMmio a = .generic a

/-- The well-formed instructions. -/
def Instr.wellFormed : Instr → Bool
  | .swGen a _ => isGeneric a
  | .lwGen a => isGeneric a
  | .srcRefe _ _ | .srcCnt _ _ | .srcNext _ _ | .srcRef _ _ | .srcRefs _ _ | .srcCall _ _ | .srcRet _ _ | .srcEnd _ _ => true
  | .dstCnts _ _ | .dstCnt _ _ | .dstRsv2 _ _ | .dstRsv3 _ _ | .dstRsv4 _ _ | .dstRsv5 _ _ | .dstRsv6 _ _ | .dstEnd _ _ => true
  | .iopTagSif0 _ | .iopTagSif1 _ => true
  | .swD0Chcr _ | .swD0Madr _ | .swD0Qwc _ | .swD0Tadr _ | .swD0Asr0 _ | .swD0Asr1 _ | .swD0Sadr _ => true
  | .lwD0Chcr | .lwD0Madr | .lwD0Qwc | .lwD0Tadr | .lwD0Asr0 | .lwD0Asr1 | .lwD0Sadr => true
  | .swD1Chcr _ | .swD1Madr _ | .swD1Qwc _ | .swD1Tadr _ | .swD1Asr0 _ | .swD1Asr1 _ | .swD1Sadr _ => true
  | .lwD1Chcr | .lwD1Madr | .lwD1Qwc | .lwD1Tadr | .lwD1Asr0 | .lwD1Asr1 | .lwD1Sadr => true
  | .swD2Chcr _ | .swD2Madr _ | .swD2Qwc _ | .swD2Tadr _ | .swD2Asr0 _ | .swD2Asr1 _ | .swD2Sadr _ => true
  | .lwD2Chcr | .lwD2Madr | .lwD2Qwc | .lwD2Tadr | .lwD2Asr0 | .lwD2Asr1 | .lwD2Sadr => true
  | .swD3Chcr _ | .swD3Madr _ | .swD3Qwc _ | .swD3Tadr _ | .swD3Asr0 _ | .swD3Asr1 _ | .swD3Sadr _ => true
  | .lwD3Chcr | .lwD3Madr | .lwD3Qwc | .lwD3Tadr | .lwD3Asr0 | .lwD3Asr1 | .lwD3Sadr => true
  | .swD4Chcr _ | .swD4Madr _ | .swD4Qwc _ | .swD4Tadr _ | .swD4Asr0 _ | .swD4Asr1 _ | .swD4Sadr _ => true
  | .lwD4Chcr | .lwD4Madr | .lwD4Qwc | .lwD4Tadr | .lwD4Asr0 | .lwD4Asr1 | .lwD4Sadr => true
  | .swD5Chcr _ | .swD5Madr _ | .swD5Qwc _ | .swD5Tadr _ | .swD5Asr0 _ | .swD5Asr1 _ | .swD5Sadr _ => true
  | .lwD5Chcr | .lwD5Madr | .lwD5Qwc | .lwD5Tadr | .lwD5Asr0 | .lwD5Asr1 | .lwD5Sadr => true
  | .swD6Chcr _ | .swD6Madr _ | .swD6Qwc _ | .swD6Tadr _ | .swD6Asr0 _ | .swD6Asr1 _ | .swD6Sadr _ => true
  | .lwD6Chcr | .lwD6Madr | .lwD6Qwc | .lwD6Tadr | .lwD6Asr0 | .lwD6Asr1 | .lwD6Sadr => true
  | .swD7Chcr _ | .swD7Madr _ | .swD7Qwc _ | .swD7Tadr _ | .swD7Asr0 _ | .swD7Asr1 _ | .swD7Sadr _ => true
  | .lwD7Chcr | .lwD7Madr | .lwD7Qwc | .lwD7Tadr | .lwD7Asr0 | .lwD7Asr1 | .lwD7Sadr => true
  | .swD8Chcr _ | .swD8Madr _ | .swD8Qwc _ | .swD8Tadr _ | .swD8Asr0 _ | .swD8Asr1 _ | .swD8Sadr _ => true
  | .lwD8Chcr | .lwD8Madr | .lwD8Qwc | .lwD8Tadr | .lwD8Asr0 | .lwD8Asr1 | .lwD8Sadr => true
  | .swD9Chcr _ | .swD9Madr _ | .swD9Qwc _ | .swD9Tadr _ | .swD9Asr0 _ | .swD9Asr1 _ | .swD9Sadr _ => true
  | .lwD9Chcr | .lwD9Madr | .lwD9Qwc | .lwD9Tadr | .lwD9Asr0 | .lwD9Asr1 | .lwD9Sadr => true
  | .swCtrl _ | .swStat _ | .swPcr _ | .swSqwc _ | .swRbsr _ | .swRbor _ | .swStadr _ | .swEnabler _ | .swEnablew _ => true
  | .lwCtrl | .lwStat | .lwPcr | .lwSqwc | .lwRbsr | .lwRbor | .lwStadr | .lwEnabler | .lwEnablew => true
  | .load8u _ | .load8s _ | .load16u _ | .load16s _ | .load32u _ | .load32s _ | .load64 _ | .load128 _ => true
  | .store8 _ _ | .store16 _ _ | .store32 _ _ | .store64 _ _ | .store128 _ _ => true

end Sys2Proof
end

