-- ==== Sys2Proof/Machine/GlobalRegs.lean ====
section
/-!
DEFINITION. The meanings of the global-register operations (40_registers.md R230 to R241) and of the generic cells
(R204), one definition per row of the opcode table.
-/

namespace Sys2Proof.Machine

/-- `SW DMAC_CTRL` (40_registers.md R230). -/
def execSwCtrl (v : Word) (s : State) : Result := swGlobal .ctrl v s
/-- `LW DMAC_CTRL` (40_registers.md R201). -/
def execLwCtrl (s : State) : Result := lwGlobal .ctrl s
/-- `SW DMAC_STAT` (40_registers.md R232). -/
def execSwStat (v : Word) (s : State) : Result := swGlobal .stat v s
/-- `LW DMAC_STAT` (40_registers.md R201). -/
def execLwStat (s : State) : Result := lwGlobal .stat s
/-- `SW DMAC_PCR` (40_registers.md R236). -/
def execSwPcr (v : Word) (s : State) : Result := swGlobal .pcr v s
/-- `LW DMAC_PCR` (40_registers.md R201). -/
def execLwPcr (s : State) : Result := lwGlobal .pcr s
/-- `SW DMAC_SQWC` (40_registers.md R237). -/
def execSwSqwc (v : Word) (s : State) : Result := swGlobal .sqwc v s
/-- `LW DMAC_SQWC` (40_registers.md R201). -/
def execLwSqwc (s : State) : Result := lwGlobal .sqwc s
/-- `SW DMAC_RBSR` (40_registers.md R237). -/
def execSwRbsr (v : Word) (s : State) : Result := swGlobal .rbsr v s
/-- `LW DMAC_RBSR` (40_registers.md R201). -/
def execLwRbsr (s : State) : Result := lwGlobal .rbsr s
/-- `SW DMAC_RBOR` (40_registers.md R237). -/
def execSwRbor (v : Word) (s : State) : Result := swGlobal .rbor v s
/-- `LW DMAC_RBOR` (40_registers.md R201). -/
def execLwRbor (s : State) : Result := lwGlobal .rbor s
/-- `SW DMAC_STADR` (40_registers.md R237). -/
def execSwStadr (v : Word) (s : State) : Result := swGlobal .stadr v s
/-- `LW DMAC_STADR` (40_registers.md R201). -/
def execLwStadr (s : State) : Result := lwGlobal .stadr s
/-- `SW DMAC_ENABLER` (40_registers.md R241). -/
def execSwEnabler (v : Word) (s : State) : Result := swGlobal .enabler v s
/-- `LW DMAC_ENABLER` (40_registers.md R201). -/
def execLwEnabler (s : State) : Result := lwGlobal .enabler s
/-- `SW DMAC_ENABLEW` (40_registers.md R240). -/
def execSwEnablew (v : Word) (s : State) : Result := swGlobal .enablew v s
/-- `LW DMAC_ENABLEW` (40_registers.md R201). -/
def execLwEnablew (s : State) : Result := lwGlobal .enablew s

/-- `SW GEN` (40_registers.md R204). An address that is no generic cell is no instruction of this row: the decoder never
gives one. The meaning refuses it, as R202 refuses an unaligned address and one outside the pages; for the address of a
named register that is the model's choice (log 28). -/
def execSwGen (a v : Word) (s : State) : Result :=
  if isGeneric a then .next (s.genWrite a v) else .next (s.refuse (.unmodelledAccess a .w32))
/-- `LW GEN` (40_registers.md R201); an address that is no generic cell as for `SW GEN` (log 28). -/
def execLwGen (a : Word) (s : State) : Result :=
  if isGeneric a then .next (s.setRet (.word (s.genRead a))) else .next (s.refuse (.unmodelledAccess a .w32))

end Sys2Proof.Machine
end

