-- ==== Sys2Proof/Machine/SifIop.lean ====
section
/-!
DEFINITION. The IOP halves of the SIF channels (43_fifo_sif.md R411 to R416, R425 to R428, R434 to R437, R443): the two
IOP tags' meanings, the data, junk and end steps, and the start the IOP DMAC makes. An IOP half is not held by the EE
DMAC (R412).
-/

namespace Sys2Proof.Machine

/-- Pad words after `w` data words: `(4 − w mod 4) mod 4` (43_fifo_sif.md R411, R427). -/
def junkOf (w : Nat) : Nat := (4 - w % 4) % 4

/-- Adds a step's timing-only cost for `words` words (43_fifo_sif.md R416; log 10). -/
def State.addIopCycles (s : State) (f : Sif) (words : Nat) : State :=
  s.updSif f fun x => { x with iop := { x.iop with cycles := x.iop.cycles + Config.costIOP f words } }

/-- What an IOP tag loads into the IOP half (43_fifo_sif.md R427, R434). -/
def State.loadIopTag (s : State) (f : Sif) (t : IopTag) : State :=
  s.updSif f fun x =>
    { x with
      iopMadr := t.iaddr.setWidth 32
      iop := { x.iop with
        counter := t.words.toNat
        writeJunk := junkOf t.words.toNat
        last := t.iirq == 1 || t.ert == 1 } }

/-- `IOPTAG(SIF0)` (43_fifo_sif.md R427): forwards the EE tag and two pad words, steps IopTadr, loads the link. -/
def execIopTagSif0 (t : IopTag) (s : State) : Result :=
  let (pads, s1) := s.drawN 2
  let s2 := s1.sifPush .sif0 ([t.u2, t.u3] ++ pads)
  let s3 := s2.updSif .sif0 fun x => { x with iopTadr := x.iopTadr + 16 }
  .next ((s3.loadIopTag .sif0 t).addIopCycles .sif0 4)

/-- `IOPTAG(SIF1)` (43_fifo_sif.md R434): takes the tag's four words off the FIFO and loads the link. -/
def execIopTagSif1 (t : IopTag) (s : State) : Result :=
  .next (((s.sifPop .sif1 4).2.loadIopTag .sif1 t).addIopCycles .sif1 4)

/-- Whether the IOP half of `f` pushes into the FIFO (IOP to EE); SIF2 follows D[7].CHCR.DIR (R440). -/
def State.iopPushes (s : State) (f : Sif) : Bool :=
  match f with
  | .sif0 => true
  | .sif1 => false
  | .sif2 => !chcrDir (s.chan.get .sif2).chcr

/-- The data step that pushes (R425): `n` words from IOP RAM at IopMadr. -/
def State.iopPushData (s : State) (f : Sif) (n : Nat) : State :=
  let s1 := s.sifPush f (s.iopReadN (s.sif.get f).iopMadr n)
  (s1.updSif f fun x =>
    { x with iopMadr := x.iopMadr + BitVec.ofNat 32 (4 * n), iop := { x.iop with counter := x.iop.counter - n } }).addIopCycles f n

/-- The data step that pops (R435): `n` words to IOP RAM at IopMadr. -/
def State.iopPopData (s : State) (f : Sif) (n : Nat) : State :=
  let (ws, s1) := s.sifPop f n
  ((s1.iopWriteN (s.sif.get f).iopMadr ws).updSif f fun x =>
    { x with iopMadr := x.iopMadr + BitVec.ofNat 32 (4 * n), iop := { x.iop with counter := x.iop.counter - n } }).addIopCycles f n

/-- The junk step that pushes (R426): `writeJunk` draws. -/
def State.iopPushJunk (s : State) (f : Sif) : State :=
  let n := (s.sif.get f).iop.writeJunk
  let (ws, s1) := s.drawN n
  ((s1.sifPush f ws).updSif f fun x => { x with iop := { x.iop with writeJunk := 0 } }).addIopCycles f n

/-- The junk step that discards (R436). -/
def State.iopPopJunk (s : State) (f : Sif) : State :=
  let n := (s.sif.get f).iop.writeJunk
  ((s.sifPop f n).2.updSif f fun x => { x with iop := { x.iop with writeJunk := 0 } }).addIopCycles f n

/-- `IopStart(f, args)` (43_fifo_sif.md R411), enabled while the IOP half is idle. -/
def State.iopStart (s : State) (f : Sif) (madr tadr : Word) (words : Nat) : State :=
  if (s.sif.get f).iop.busy then s
  else s.updSif f fun x =>
    match f with
    | .sif0 => { x with iopTadr := tadr, iop := ⟨true, false, 0, 0, 0⟩ }
    | .sif1 => { x with iop := ⟨true, false, 0, 0, 0⟩ }
    | .sif2 => { x with iopMadr := madr, iop := ⟨true, true, words, junkOf words, 0⟩ }

end Sys2Proof.Machine
end

