-- ==== Sys2Proof/Machine/Vtlb.lean ====
section
/-!
DEFINITION. The VTLB: the interpreted access through the page map (44_vtlb.md R485, R491, R492), the thirteen
dispatchers over it (R495, R507), the initialiser (R505), and the MMU model's map writes (R486).
-/

namespace Sys2Proof.Machine

/-- The result a load returns to the host (44_vtlb.md R491): up to 32 bits extended to 64, 64 as they are, 128 as they
are. `v` holds the loaded bits, zero-extended. -/
def loadResult (w : Width) (sign : Bool) (v : Quad) : Returned :=
  match w with
  | .w8 => .dword (if sign then (v.setWidth 8).signExtend 64 else (v.setWidth 8).setWidth 64)
  | .w16 => .dword (if sign then (v.setWidth 16).signExtend 64 else (v.setWidth 16).setWidth 64)
  | .w32 => .dword (if sign then (v.setWidth 32).signExtend 64 else (v.setWidth 32).setWidth 64)
  | .w64 => .dword (v.setWidth 64)
  | .w128 => .quad v

/-- The low bits of a value that an access of width `w` uses (44_vtlb.md R492). -/
def lowBits (w : Width) (v : Quad) : Quad :=
  match w with
  | .w8 => (v.setWidth 8).setWidth 128
  | .w16 => (v.setWidth 16).setWidth 128
  | .w32 => (v.setWidth 32).setWidth 128
  | .w64 => (v.setWidth 64).setWidth 128
  | .w128 => v

/-- Whether `va` is a multiple of the width in bytes (44_vtlb.md R493). -/
def aligned (w : Width) (va : Word) : Bool := va.toNat % w.bytes == 0

/-- Whether the bytes `off .. off+w/8-1` exist in the backing memory (10_state.md R60). -/
def State.inRegion (s : State) (r : Region) (off : Nat) (w : Width) : Bool := off + w.bytes ≤ s.regionSize r

/-- What an access of width `w` resolves to (44_vtlb.md R485). A Direct page names bytes of its backing memory (R481);
where one of the access's bytes does not exist there, the model takes the MMU model's default handler (R482; log 14), so
that an access ends at a byte or at a handler, as R497 says. -/
def State.resolve (s : State) (w : Width) (va : Word) : Resolved :=
  match s.vtlbLookup va with
  | .direct r off => if s.inRegion r off w then .direct r off else .handler .default va
  | .handler h pa => .handler h pa

/-- A read through the DMAC handler: 32 bits wide it is `dmacRead32`, any other width is refused (44_vtlb.md R491,
40_registers.md R201, R202). -/
def dmacLoad (w : Width) (sign : Bool) (pa : Word) (s : State) : Result :=
  match w with
  | .w32 =>
    match s.dmacRead32 pa with
    | some v => .next (s.setRet (loadResult .w32 sign (v.setWidth 128)))
    | none => .next (s.refuse (.unmodelledAccess pa .w32))
  | _ => .next (s.refuse (.unmodelledAccess pa w))

/-- A write through the DMAC handler: 32 bits wide it is `dmacWrite32`, any other width is refused (44_vtlb.md R492,
40_registers.md R200, R202). -/
def dmacStore (w : Width) (pa : Word) (v : Quad) (s : State) : Result :=
  match w with
  | .w32 =>
    match s.dmacWrite32 pa (v.setWidth 32) with
    | some s' => .next s'
    | none => .next (s.refuse (.unmodelledAccess pa .w32))
  | _ => .next (s.refuse (.unmodelledAccess pa w))

/-- A read through another handler: its value is free, and the call is shown (44_vtlb.md R491; log 12, log 13). -/
def externLoad (h : HandlerId) (w : Width) (sign : Bool) (pa : Word) (s : State) : Result :=
  .next (({ s with env := { s.env with draws := s.env.draws + 1 } }.setRet
    (loadResult w sign (lowBits w (Config.handlerRead h w pa s.env.draws)))).setOut (.handlerRead h w pa))

/-- A write through another handler: the call is shown (44_vtlb.md R492; log 12, log 13). -/
def externStore (h : HandlerId) (w : Width) (pa : Word) (v : Quad) (s : State) : Result :=
  .next (s.setOut (.handlerWrite h w pa (lowBits w v)))

/-- The interpreted load (44_vtlb.md R491 without the dispatcher). -/
def interpLoad (w : Width) (sign : Bool) (va : Word) (s : State) : Result :=
  if aligned w va then
    match s.resolve w va with
    | .direct r off => .next (s.setRet (loadResult w sign (s.memRead r off w.bytes)))
    | .handler h pa => if h = .dmac then dmacLoad w sign pa s else externLoad h w sign pa s
  else .next (s.refuse (.misalignedAccess va w))

/-- The interpreted store (44_vtlb.md R492 without the dispatcher). -/
def interpStore (w : Width) (va : Word) (v : Quad) (s : State) : Result :=
  if aligned w va then
    match s.resolve w va with
    | .direct r off => .next (s.memWrite r off w.bytes v)
    | .handler h pa => if h = .dmac then dmacStore w pa v s else externStore h w pa v s
  else .next (s.refuse (.misalignedAccess va w))

/-- Whether the dispatcher with selector `sel` has been generated (44_vtlb.md R505, R507). -/
def State.hasDispatcher (s : State) (sel : BitVec 5) : Bool := s.vtlb.init && s.vtlb.dispatch.contains sel

/-- The load dispatcher (44_vtlb.md R491, R507): `dispatch[sel]` behaves as the interpreted load (R512). -/
def dispatchLoad (w : Width) (sign : Bool) (va : Word) (s : State) : Result :=
  if s.hasDispatcher (selector false w sign) then interpLoad w sign va s
  else .next (s.refuse (.dispatchBeforeInit va w))

/-- The store dispatcher (44_vtlb.md R492, R507). -/
def dispatchStore (w : Width) (va : Word) (v : Quad) (s : State) : Result :=
  if s.hasDispatcher (selector true w false) then interpStore w va v s
  else .next (s.refuse (.dispatchBeforeInit va w))

/-- `vtlb_dynarec_init()` (44_vtlb.md R505): nothing the second time; the RW phase is inside this one step. -/
def State.vtlbInit (s : State) : State :=
  if s.vtlb.init then s
  else { s with
    vtlb := { s.vtlb with
      dispatch := validSelectors, genCount := s.vtlb.genCount + 1, codePerm := .rx, init := true } }

/-- The MMU model writes the entry of page `p` (44_vtlb.md R486); a number that is no page number changes nothing. -/
def State.mmuMap (s : State) (p : Nat) (e : VtlbEntry) : State :=
  if p < 2 ^ (s.params.vaddrBits - s.params.vtlbPageBits) then
    { s with vtlb := { s.vtlb with vmap := cellInsert s.vtlb.vmap p e } }
  else s

/-! ### The dispatchers' meanings -/

/-- `LOAD.8u`, selector 0x00 (R491). -/
def execLoad8u (va : Word) (s : State) : Result := dispatchLoad .w8 false va s
/-- `LOAD.8s`, selector 0x01 (R491). -/
def execLoad8s (va : Word) (s : State) : Result := dispatchLoad .w8 true va s
/-- `LOAD.16u`, selector 0x02 (R491). -/
def execLoad16u (va : Word) (s : State) : Result := dispatchLoad .w16 false va s
/-- `LOAD.16s`, selector 0x03 (R491). -/
def execLoad16s (va : Word) (s : State) : Result := dispatchLoad .w16 true va s
/-- `LOAD.32u`, selector 0x04 (R491). -/
def execLoad32u (va : Word) (s : State) : Result := dispatchLoad .w32 false va s
/-- `LOAD.32s`, selector 0x05 (R491). -/
def execLoad32s (va : Word) (s : State) : Result := dispatchLoad .w32 true va s
/-- `LOAD.64`, selector 0x06 (R491). -/
def execLoad64 (va : Word) (s : State) : Result := dispatchLoad .w64 false va s
/-- `LOAD.128`, selector 0x08 (R491). -/
def execLoad128 (va : Word) (s : State) : Result := dispatchLoad .w128 false va s
/-- `STORE.8`, selector 0x10 (R492). -/
def execStore8 (va : Word) (v : Quad) (s : State) : Result := dispatchStore .w8 va v s
/-- `STORE.16`, selector 0x12 (R492). -/
def execStore16 (va : Word) (v : Quad) (s : State) : Result := dispatchStore .w16 va v s
/-- `STORE.32`, selector 0x14 (R492). -/
def execStore32 (va : Word) (v : Quad) (s : State) : Result := dispatchStore .w32 va v s
/-- `STORE.64`, selector 0x16 (R492). -/
def execStore64 (va : Word) (v : Quad) (s : State) : Result := dispatchStore .w64 va v s
/-- `STORE.128`, selector 0x18 (R492). -/
def execStore128 (va : Word) (v : Quad) (s : State) : Result := dispatchStore .w128 va v s

end Sys2Proof.Machine
end

