-- ==== Sys2Proof/Machine/Agents.lean ====
section
/-!
DEFINITION. The agents of 00_scope.md R7 and their moves. A move either reads an instruction (a tag, a register access, a
dispatcher call), which `step` then runs with `exec`, or is a step of its own. A move that is not enabled holds: it
changes nothing (00_scope.md R15). Which agent moves is the head of the agenda, and a free value where the agenda is
empty (20_memory.md R120; log 1).
-/

namespace Sys2Proof.Machine

/-- What a move comes to: an instruction to run on a state, or an outcome. -/
inductive Move where
  | run (i : Instr) (s : State)
  | done (r : Result)

/-- A move that is not enabled. -/
def hold (s : State) : Move := .done (.next s)

/-- The refusal of bytes that are no instruction. -/
def refusalOf : DecodeError → Refusal
  | .tooShort => .truncated
  | .unaligned a => .unmodelledAccess a .w32
  | .outside a => .unmodelledAccess a .w32
  | .notADispatcher b => .notADispatcher (b.setWidth 5)

/-- Decodes the bytes read on a port; the instruction runs on `s`, and bytes that are none are refused. -/
def readInstr (p : Port) (bs : List Byte) (s : State) : Move :=
  match decode p bs with
  | .ok i => .run i s
  | .bad e => .done (.next (s.refuse (refusalOf e)))

/-! ### EE engines -/

/-- The source-chain fetch of the tag at TADR (41_tag_walker.md R261): a bus error where TADR resolves to nothing. -/
def State.srcTagFetch (s : State) (c : SrcCh) : Move :=
  match s.dmaAddr (s.chan.get c.toCh).tadr false with
  | none => .done (.next (s.busError c.toCh))
  | some l => readInstr (.srcTag c) ((s.mem.get l.region).readBytes l.off 16) s

/-- The destination-chain tag read of SIF0 (43_fifo_sif.md R420): four words off the FIFO. -/
def State.sif0TagRead (s : State) : Move :=
  if s.sifSize .sif0 < 4 then hold s
  else
    let (q, s1) := State.takeSif .sif0 s
    readInstr (.dstTag .sif0) (leBytes 16 q) s1

/-- The destination-chain tag read of SPR0 (42_channel_engines.md R360): the quadword at SADR, which then advances. -/
def State.spr0TagRead (s : State) : Move :=
  readInstr (.dstTag .spr0) ((s.mem.get .spr).readBytes (sprOffset (s.chan.get .spr0).sadr) 16)
    (s.advanceSadr .spr0)

/-- The step of an engine in phase TagFetch (41_tag_walker.md R261, R298; SIF1's guard 43_fifo_sif.md R430). -/
def State.tagFetchPhase (s : State) (c : Ch) : Move :=
  match c, (s.eng.get c).mode with
  | .ipu1, .srcChain => s.srcTagFetch .ipu1
  | .spr1, .srcChain => s.srcTagFetch .spr1
  | .sif1, .srcChain =>
    if chcrTte (s.chan.get .sif1).chcr = true ∧ s.sifFree .sif1 < 2 then hold s else s.srcTagFetch .sif1
  | .sif0, .dstChain => s.sif0TagRead
  | .spr0, .dstChain => s.spr0TagRead
  | _, _ => hold s

/-- The step of the EE engine of channel `c` (42_channel_engines.md R380); none is enabled while the DMAC is not
runnable (R326). -/
def State.engineMove (s : State) (c : Ch) (n : Nat) : Move :=
  if s.dmacRunnable then
    match (s.eng.get c).phase with
    | .tagFetch => s.tagFetchPhase c
    | .transfer => .done (.next (s.transferPhase c n))
    | .stalled => .done (.next (s.updEng c fun e => { e with phase := .tagFetch }))
    | .parked => if s.wakes c then .done (.next (s.updEng c fun e => { e with phase := .transfer })) else hold s
    | .idle | .queued | .completing | .external => hold s
  else hold s

/-! ### IOP halves -/

/-- The IOP tag step: SIF0 reads the four words at IopTadr (43_fifo_sif.md R427), SIF1 the four oldest words of its FIFO
(R434); SIF2 has none (R443). -/
def State.iopTagMove (s : State) (f : Sif) : Move :=
  match f with
  | .sif0 =>
    if s.sifFree .sif0 < 4 then hold s
    else
      let ws := s.iopReadN (s.sif.get .sif0).iopTadr 4
      readInstr .iopTagSif0 (leBytes 16 (quadOf (ws.getD 0 0) (ws.getD 1 0) (ws.getD 2 0) (ws.getD 3 0))) s
  | .sif1 =>
    if s.sifSize .sif1 < 4 then hold s
    else
      let ws := (s.sif.get .sif1).fifo
      readInstr .iopTagSif1 (leBytes 16 (quadOf (ws.getD 0 0) (ws.getD 1 0) (ws.getD 2 0) (ws.getD 3 0))) s
  | .sif2 => hold s

/-- The step of the IOP half of SIF channel `f` (43_fifo_sif.md R425 to R428, R434 to R437, R443). -/
def State.iopMove (s : State) (f : Sif) (n : Nat) : Move :=
  let x := (s.sif.get f).iop
  if x.busy = false then hold s
  else if x.counter > 0 then
    if s.iopPushes f then
      if s.sifFree f > 0 then .done (.next (s.iopPushData f (chunk n (min x.counter (s.sifFree f))))) else hold s
    else
      if s.sifSize f > 0 then .done (.next (s.iopPopData f (chunk n (min x.counter (s.sifSize f))))) else hold s
  else if x.writeJunk > 0 then
    if s.iopPushes f then
      if s.sifFree f ≥ x.writeJunk then .done (.next (s.iopPushJunk f)) else hold s
    else
      if s.sifSize f ≥ x.writeJunk then .done (.next (s.iopPopJunk f)) else hold s
  else if x.last then .done (.next (s.endIOP f))
  else s.iopTagMove f

/-! ### Events -/

/-- The scheduler fires ev[c] (60_exceptions.md R606, R610); on a channel 0..2 the event is the external pump's
completion (log 15). -/
def State.fireEvent (s : State) (c : Ch) : State :=
  match s.ev.get c with
  | none => s
  | some _ =>
    if c.inScope then
      if (s.eng.get c).phase = .completing ∧ s.dmacRunnable = true then s.complete c else s
    else if (s.eng.get c).phase = .external then s.complete c
    else s.setEv c none

/-- The scheduler fires iopEv[f] (60_exceptions.md R612): no state of the block changes but the slot. -/
def State.fireIopEvent (s : State) (f : Sif) : State :=
  match (s.sif.get f).iopEv with
  | none => s
  | some _ => (s.updSif f fun x => { x with iopEv := none }).setOut (.psxInt f)

/-! ### External agents -/

/-- The external pump of a channel 0..2, enabled while its phase is External (00_scope.md R11; log 15). Its register
writes leave STR as it is; clearing STR makes the channel Idle (10_state.md R41). -/
def State.extPump (s : State) (c : Ch) (op : ExtOp) : State :=
  if c.inScope = false ∧ (s.eng.get c).phase = .external then
    match op with
    | .writeReg .chcr v => s.updChan c fun d => { d with chcr := chcrWithStr v (chcrStr d.chcr) }
    | .writeReg r v => s.updChan c fun d => d.write r v
    | .setCis => s.hwDmacIrq c.num
    | .clearStr => (s.updChan c fun d => { d with chcr := chcrWithStr d.chcr false }).updEng c
        fun e => { e with phase := .idle }
  else s

/-- The deferred event of a channel 0..2 is requested, `CPU_INT(c, d)`, while its phase is External (10_state.md R43,
60_exceptions.md R610; log 15). -/
def State.extSchedule (s : State) (c : Ch) (d : Nat) : State :=
  if c.inScope = false ∧ (s.eng.get c).phase = .external then s.setEv c (some (eventDelay d)) else s

/-- The IOP CPU stores to IOP RAM (60_exceptions.md R641). -/
def State.iopCpuStore (s : State) (w : Width) (addr : Word) (v : Quad) : State :=
  if s.inRegion .iopRam addr.toNat w then s.memWrite .iopRam addr.toNat w.bytes v else s

/-- The emulator's reset (70_reset_and_hazards.md R700, R701): every piece of the block's state takes its reset value;
the memories and the parameters are kept, and so are the model's own fields, which are not the block's (log 20). No step
takes it from a state with a fault record or the mark `refused` (log 6). -/
def State.resetBlock (s : State) : State :=
  { State.reset with mem := s.mem, params := s.params, env := s.env }

/-! ### The next move -/

/-- The move of an action. -/
def State.move (s : State) (a : Action) : Move :=
  match a with
  | .hostWrite w addr v =>
    match w with
    | .w32 => readInstr .mmioWrite (encodeWrite addr (v.setWidth 32)) s
    | _ => .done (.next (s.refuse (.unmodelledAccess addr w)))
  | .hostRead w addr =>
    match w with
    | .w32 => readInstr .mmioRead (encodeRead addr) s
    | _ => .done (.next (s.refuse (.unmodelledAccess addr w)))
  | .dispatch sel va v => readInstr .dispatch (encodeDispatch sel va v) s
  | .interpret store w sign va v => .done (if store then interpStore w va v s else interpLoad w sign va s)
  | .vtlbInit => .done (.next s.vtlbInit)
  | .engine c n => s.engineMove c n
  | .iopHalf f n => s.iopMove f n
  | .fire c => .done (.next (s.fireEvent c))
  | .fireIop f => .done (.next (s.fireIopEvent f))
  | .iopStart f madr tadr words => .done (.next (s.iopStart f madr tadr words))
  | .ipuPush q => .done (.next (if s.ipuOutFree > 0 then s.ipuOutPush q else s))
  | .ipuPop => .done (.next (if s.ipu.inFifo.length > 0 then s.ipuInPop else s))
  | .ipuRequest b => .done (.next { s with ipu := { s.ipu with dataRequested := b } })
  | .extPump c op => .done (.next (s.extPump c op))
  | .extSchedule c d => .done (.next (s.extSchedule c d))
  | .mfifoEmpty => .done (.next (s.hwDmacIrq statMeis))
  | .mmuMap p e => .done (.next (s.mmuMap p e))
  | .iopCpuStore w addr v => .done (.next (s.iopCpuStore w addr v))
  | .reset => .done (.next s.resetBlock)

/-- The action that is taken next, and the state with it taken off the agenda (log 1). -/
def State.nextAction (s : State) : Action × State :=
  match s.env.agenda with
  | a :: rest => (a, { s with env := { s.env with agenda := rest } })
  | [] => (Config.freeAction s.env.draws, { s with env := { s.env with draws := s.env.draws + 1 } })

/-- The machine's next move. From a state with a fault record no agent has an enabled step (42_channel_engines.md
R322), and from one marked `refused` the model goes no further either (60_exceptions.md R602; log 7); reset is no
exception (log 6). -/
def State.nextMove (s : State) : Move :=
  match s.faults with
  | r :: _ => .done (.fault (.stopped r))
  | [] =>
    match s.refused with
    | some r => .done (.refused r)
    | none =>
      let (a, s1) := s.nextAction
      s1.move a

/-! ### Placing a word of the opcode table (log 19, log 21) -/

/-- The state in which the next move reads the instruction whose bits are `w`: a dispatcher selector is called on guest
address 0 of an initialised VTLB whose page 0 is RAM; a register address is written by the host; a source-chain tag lies
at SPR1's TADR (in scratchpad where that resolves to nothing) with SPR1's engine about to fetch it. -/
def State.placeWord (s : State) (nbits w : Nat) : State :=
  let q := BitVec.ofNat 128 w
  let s0 := { s with faults := [], refused := none }
  match tablePort nbits w with
  | .dispatch =>
    let s1 := (s0.vtlbInit).mmuMap 0 (.direct .ram 0)
    { s1 with env := { s1.env with agenda := [.dispatch (q.setWidth 5) 0 0] } }
  | .mmioWrite | .mmioRead =>
    { s0 with env := { s0.env with agenda := [.hostWrite .w32 (wordOf q 0) ((wordOf q 1).setWidth 128)] } }
  | .srcTag _ | .dstTag _ | .iopTagSif0 | .iopTagSif1 =>
    let tadr := if (s0.dmaAddr (s0.chan.get .spr1).tadr false).isSome then (s0.chan.get .spr1).tadr else 0x80000000
    let l := (s0.dmaAddr tadr false).getD ⟨.spr, 0⟩
    let s1 := s0.setG { s0.g with
      ctrl := withBit s0.g.ctrl 0 true, enablew := withBit s0.g.enablew 16 false
      enabler := withBit s0.g.enabler 16 false }
    let s2 := (s1.updChan .spr1 fun d =>
      { d with tadr := tadr, chcr := chcrWithMod (chcrWithStr d.chcr true) 1 }).updEng .spr1
        fun e => { e with phase := .tagFetch, mode := .srcChain }
    let s3 := s2.memWrite l.region l.off 16 q
    { s3 with env := { s3.env with agenda := [.engine .spr1 1] } }

end Sys2Proof.Machine
end

