-- ==== Sys2Proof/Machine/Dispatch.lean ====
section
/-!
DEFINITION. exec: one arm per constructor of Instr, each a direct call of that instruction's meaning.
-/

namespace Sys2Proof.Machine

def exec (i : Instr) (s : State) : Host.Outcome State Fault Refusal :=
  match i with
  | .srcRefe c t => Sys2Proof.Machine.execSrcRefe c t s
  | .srcCnt c t => Sys2Proof.Machine.execSrcCnt c t s
  | .srcNext c t => Sys2Proof.Machine.execSrcNext c t s
  | .srcRef c t => Sys2Proof.Machine.execSrcRef c t s
  | .srcRefs c t => Sys2Proof.Machine.execSrcRefs c t s
  | .srcCall c t => Sys2Proof.Machine.execSrcCall c t s
  | .srcRet c t => Sys2Proof.Machine.execSrcRet c t s
  | .srcEnd c t => Sys2Proof.Machine.execSrcEnd c t s
  | .dstCnts c t => Sys2Proof.Machine.execDstCnts c t s
  | .dstCnt c t => Sys2Proof.Machine.execDstCnt c t s
  | .dstRsv2 c t => Sys2Proof.Machine.execDstRsv2 c t s
  | .dstRsv3 c t => Sys2Proof.Machine.execDstRsv3 c t s
  | .dstRsv4 c t => Sys2Proof.Machine.execDstRsv4 c t s
  | .dstRsv5 c t => Sys2Proof.Machine.execDstRsv5 c t s
  | .dstRsv6 c t => Sys2Proof.Machine.execDstRsv6 c t s
  | .dstEnd c t => Sys2Proof.Machine.execDstEnd c t s
  | .iopTagSif0 t => Sys2Proof.Machine.execIopTagSif0 t s
  | .iopTagSif1 t => Sys2Proof.Machine.execIopTagSif1 t s
  | .swD0Chcr v => Sys2Proof.Machine.execSwD0Chcr v s
  | .lwD0Chcr => Sys2Proof.Machine.execLwD0Chcr s
  | .swD0Madr v => Sys2Proof.Machine.execSwD0Madr v s
  | .lwD0Madr => Sys2Proof.Machine.execLwD0Madr s
  | .swD0Qwc v => Sys2Proof.Machine.execSwD0Qwc v s
  | .lwD0Qwc => Sys2Proof.Machine.execLwD0Qwc s
  | .swD0Tadr v => Sys2Proof.Machine.execSwD0Tadr v s
  | .lwD0Tadr => Sys2Proof.Machine.execLwD0Tadr s
  | .swD0Asr0 v => Sys2Proof.Machine.execSwD0Asr0 v s
  | .lwD0Asr0 => Sys2Proof.Machine.execLwD0Asr0 s
  | .swD0Asr1 v => Sys2Proof.Machine.execSwD0Asr1 v s
  | .lwD0Asr1 => Sys2Proof.Machine.execLwD0Asr1 s
  | .swD0Sadr v => Sys2Proof.Machine.execSwD0Sadr v s
  | .lwD0Sadr => Sys2Proof.Machine.execLwD0Sadr s
  | .swD1Chcr v => Sys2Proof.Machine.execSwD1Chcr v s
  | .lwD1Chcr => Sys2Proof.Machine.execLwD1Chcr s
  | .swD1Madr v => Sys2Proof.Machine.execSwD1Madr v s
  | .lwD1Madr => Sys2Proof.Machine.execLwD1Madr s
  | .swD1Qwc v => Sys2Proof.Machine.execSwD1Qwc v s
  | .lwD1Qwc => Sys2Proof.Machine.execLwD1Qwc s
  | .swD1Tadr v => Sys2Proof.Machine.execSwD1Tadr v s
  | .lwD1Tadr => Sys2Proof.Machine.execLwD1Tadr s
  | .swD1Asr0 v => Sys2Proof.Machine.execSwD1Asr0 v s
  | .lwD1Asr0 => Sys2Proof.Machine.execLwD1Asr0 s
  | .swD1Asr1 v => Sys2Proof.Machine.execSwD1Asr1 v s
  | .lwD1Asr1 => Sys2Proof.Machine.execLwD1Asr1 s
  | .swD1Sadr v => Sys2Proof.Machine.execSwD1Sadr v s
  | .lwD1Sadr => Sys2Proof.Machine.execLwD1Sadr s
  | .swD2Chcr v => Sys2Proof.Machine.execSwD2Chcr v s
  | .lwD2Chcr => Sys2Proof.Machine.execLwD2Chcr s
  | .swD2Madr v => Sys2Proof.Machine.execSwD2Madr v s
  | .lwD2Madr => Sys2Proof.Machine.execLwD2Madr s
  | .swD2Qwc v => Sys2Proof.Machine.execSwD2Qwc v s
  | .lwD2Qwc => Sys2Proof.Machine.execLwD2Qwc s
  | .swD2Tadr v => Sys2Proof.Machine.execSwD2Tadr v s
  | .lwD2Tadr => Sys2Proof.Machine.execLwD2Tadr s
  | .swD2Asr0 v => Sys2Proof.Machine.execSwD2Asr0 v s
  | .lwD2Asr0 => Sys2Proof.Machine.execLwD2Asr0 s
  | .swD2Asr1 v => Sys2Proof.Machine.execSwD2Asr1 v s
  | .lwD2Asr1 => Sys2Proof.Machine.execLwD2Asr1 s
  | .swD2Sadr v => Sys2Proof.Machine.execSwD2Sadr v s
  | .lwD2Sadr => Sys2Proof.Machine.execLwD2Sadr s
  | .swD3Chcr v => Sys2Proof.Machine.execSwD3Chcr v s
  | .lwD3Chcr => Sys2Proof.Machine.execLwD3Chcr s
  | .swD3Madr v => Sys2Proof.Machine.execSwD3Madr v s
  | .lwD3Madr => Sys2Proof.Machine.execLwD3Madr s
  | .swD3Qwc v => Sys2Proof.Machine.execSwD3Qwc v s
  | .lwD3Qwc => Sys2Proof.Machine.execLwD3Qwc s
  | .swD3Tadr v => Sys2Proof.Machine.execSwD3Tadr v s
  | .lwD3Tadr => Sys2Proof.Machine.execLwD3Tadr s
  | .swD3Asr0 v => Sys2Proof.Machine.execSwD3Asr0 v s
  | .lwD3Asr0 => Sys2Proof.Machine.execLwD3Asr0 s
  | .swD3Asr1 v => Sys2Proof.Machine.execSwD3Asr1 v s
  | .lwD3Asr1 => Sys2Proof.Machine.execLwD3Asr1 s
  | .swD3Sadr v => Sys2Proof.Machine.execSwD3Sadr v s
  | .lwD3Sadr => Sys2Proof.Machine.execLwD3Sadr s
  | .swD4Chcr v => Sys2Proof.Machine.execSwD4Chcr v s
  | .lwD4Chcr => Sys2Proof.Machine.execLwD4Chcr s
  | .swD4Madr v => Sys2Proof.Machine.execSwD4Madr v s
  | .lwD4Madr => Sys2Proof.Machine.execLwD4Madr s
  | .swD4Qwc v => Sys2Proof.Machine.execSwD4Qwc v s
  | .lwD4Qwc => Sys2Proof.Machine.execLwD4Qwc s
  | .swD4Tadr v => Sys2Proof.Machine.execSwD4Tadr v s
  | .lwD4Tadr => Sys2Proof.Machine.execLwD4Tadr s
  | .swD4Asr0 v => Sys2Proof.Machine.execSwD4Asr0 v s
  | .lwD4Asr0 => Sys2Proof.Machine.execLwD4Asr0 s
  | .swD4Asr1 v => Sys2Proof.Machine.execSwD4Asr1 v s
  | .lwD4Asr1 => Sys2Proof.Machine.execLwD4Asr1 s
  | .swD4Sadr v => Sys2Proof.Machine.execSwD4Sadr v s
  | .lwD4Sadr => Sys2Proof.Machine.execLwD4Sadr s
  | .swD5Chcr v => Sys2Proof.Machine.execSwD5Chcr v s
  | .lwD5Chcr => Sys2Proof.Machine.execLwD5Chcr s
  | .swD5Madr v => Sys2Proof.Machine.execSwD5Madr v s
  | .lwD5Madr => Sys2Proof.Machine.execLwD5Madr s
  | .swD5Qwc v => Sys2Proof.Machine.execSwD5Qwc v s
  | .lwD5Qwc => Sys2Proof.Machine.execLwD5Qwc s
  | .swD5Tadr v => Sys2Proof.Machine.execSwD5Tadr v s
  | .lwD5Tadr => Sys2Proof.Machine.execLwD5Tadr s
  | .swD5Asr0 v => Sys2Proof.Machine.execSwD5Asr0 v s
  | .lwD5Asr0 => Sys2Proof.Machine.execLwD5Asr0 s
  | .swD5Asr1 v => Sys2Proof.Machine.execSwD5Asr1 v s
  | .lwD5Asr1 => Sys2Proof.Machine.execLwD5Asr1 s
  | .swD5Sadr v => Sys2Proof.Machine.execSwD5Sadr v s
  | .lwD5Sadr => Sys2Proof.Machine.execLwD5Sadr s
  | .swD6Chcr v => Sys2Proof.Machine.execSwD6Chcr v s
  | .lwD6Chcr => Sys2Proof.Machine.execLwD6Chcr s
  | .swD6Madr v => Sys2Proof.Machine.execSwD6Madr v s
  | .lwD6Madr => Sys2Proof.Machine.execLwD6Madr s
  | .swD6Qwc v => Sys2Proof.Machine.execSwD6Qwc v s
  | .lwD6Qwc => Sys2Proof.Machine.execLwD6Qwc s
  | .swD6Tadr v => Sys2Proof.Machine.execSwD6Tadr v s
  | .lwD6Tadr => Sys2Proof.Machine.execLwD6Tadr s
  | .swD6Asr0 v => Sys2Proof.Machine.execSwD6Asr0 v s
  | .lwD6Asr0 => Sys2Proof.Machine.execLwD6Asr0 s
  | .swD6Asr1 v => Sys2Proof.Machine.execSwD6Asr1 v s
  | .lwD6Asr1 => Sys2Proof.Machine.execLwD6Asr1 s
  | .swD6Sadr v => Sys2Proof.Machine.execSwD6Sadr v s
  | .lwD6Sadr => Sys2Proof.Machine.execLwD6Sadr s
  | .swD7Chcr v => Sys2Proof.Machine.execSwD7Chcr v s
  | .lwD7Chcr => Sys2Proof.Machine.execLwD7Chcr s
  | .swD7Madr v => Sys2Proof.Machine.execSwD7Madr v s
  | .lwD7Madr => Sys2Proof.Machine.execLwD7Madr s
  | .swD7Qwc v => Sys2Proof.Machine.execSwD7Qwc v s
  | .lwD7Qwc => Sys2Proof.Machine.execLwD7Qwc s
  | .swD7Tadr v => Sys2Proof.Machine.execSwD7Tadr v s
  | .lwD7Tadr => Sys2Proof.Machine.execLwD7Tadr s
  | .swD7Asr0 v => Sys2Proof.Machine.execSwD7Asr0 v s
  | .lwD7Asr0 => Sys2Proof.Machine.execLwD7Asr0 s
  | .swD7Asr1 v => Sys2Proof.Machine.execSwD7Asr1 v s
  | .lwD7Asr1 => Sys2Proof.Machine.execLwD7Asr1 s
  | .swD7Sadr v => Sys2Proof.Machine.execSwD7Sadr v s
  | .lwD7Sadr => Sys2Proof.Machine.execLwD7Sadr s
  | .swD8Chcr v => Sys2Proof.Machine.execSwD8Chcr v s
  | .lwD8Chcr => Sys2Proof.Machine.execLwD8Chcr s
  | .swD8Madr v => Sys2Proof.Machine.execSwD8Madr v s
  | .lwD8Madr => Sys2Proof.Machine.execLwD8Madr s
  | .swD8Qwc v => Sys2Proof.Machine.execSwD8Qwc v s
  | .lwD8Qwc => Sys2Proof.Machine.execLwD8Qwc s
  | .swD8Tadr v => Sys2Proof.Machine.execSwD8Tadr v s
  | .lwD8Tadr => Sys2Proof.Machine.execLwD8Tadr s
  | .swD8Asr0 v => Sys2Proof.Machine.execSwD8Asr0 v s
  | .lwD8Asr0 => Sys2Proof.Machine.execLwD8Asr0 s
  | .swD8Asr1 v => Sys2Proof.Machine.execSwD8Asr1 v s
  | .lwD8Asr1 => Sys2Proof.Machine.execLwD8Asr1 s
  | .swD8Sadr v => Sys2Proof.Machine.execSwD8Sadr v s
  | .lwD8Sadr => Sys2Proof.Machine.execLwD8Sadr s
  | .swD9Chcr v => Sys2Proof.Machine.execSwD9Chcr v s
  | .lwD9Chcr => Sys2Proof.Machine.execLwD9Chcr s
  | .swD9Madr v => Sys2Proof.Machine.execSwD9Madr v s
  | .lwD9Madr => Sys2Proof.Machine.execLwD9Madr s
  | .swD9Qwc v => Sys2Proof.Machine.execSwD9Qwc v s
  | .lwD9Qwc => Sys2Proof.Machine.execLwD9Qwc s
  | .swD9Tadr v => Sys2Proof.Machine.execSwD9Tadr v s
  | .lwD9Tadr => Sys2Proof.Machine.execLwD9Tadr s
  | .swD9Asr0 v => Sys2Proof.Machine.execSwD9Asr0 v s
  | .lwD9Asr0 => Sys2Proof.Machine.execLwD9Asr0 s
  | .swD9Asr1 v => Sys2Proof.Machine.execSwD9Asr1 v s
  | .lwD9Asr1 => Sys2Proof.Machine.execLwD9Asr1 s
  | .swD9Sadr v => Sys2Proof.Machine.execSwD9Sadr v s
  | .lwD9Sadr => Sys2Proof.Machine.execLwD9Sadr s
  | .swCtrl v => Sys2Proof.Machine.execSwCtrl v s
  | .lwCtrl => Sys2Proof.Machine.execLwCtrl s
  | .swStat v => Sys2Proof.Machine.execSwStat v s
  | .lwStat => Sys2Proof.Machine.execLwStat s
  | .swPcr v => Sys2Proof.Machine.execSwPcr v s
  | .lwPcr => Sys2Proof.Machine.execLwPcr s
  | .swSqwc v => Sys2Proof.Machine.execSwSqwc v s
  | .lwSqwc => Sys2Proof.Machine.execLwSqwc s
  | .swRbsr v => Sys2Proof.Machine.execSwRbsr v s
  | .lwRbsr => Sys2Proof.Machine.execLwRbsr s
  | .swRbor v => Sys2Proof.Machine.execSwRbor v s
  | .lwRbor => Sys2Proof.Machine.execLwRbor s
  | .swStadr v => Sys2Proof.Machine.execSwStadr v s
  | .lwStadr => Sys2Proof.Machine.execLwStadr s
  | .swEnabler v => Sys2Proof.Machine.execSwEnabler v s
  | .lwEnabler => Sys2Proof.Machine.execLwEnabler s
  | .swEnablew v => Sys2Proof.Machine.execSwEnablew v s
  | .lwEnablew => Sys2Proof.Machine.execLwEnablew s
  | .swGen a v => Sys2Proof.Machine.execSwGen a v s
  | .lwGen a => Sys2Proof.Machine.execLwGen a s
  | .load8u va => Sys2Proof.Machine.execLoad8u va s
  | .load8s va => Sys2Proof.Machine.execLoad8s va s
  | .load16u va => Sys2Proof.Machine.execLoad16u va s
  | .load16s va => Sys2Proof.Machine.execLoad16s va s
  | .load32u va => Sys2Proof.Machine.execLoad32u va s
  | .load32s va => Sys2Proof.Machine.execLoad32s va s
  | .load64 va => Sys2Proof.Machine.execLoad64 va s
  | .load128 va => Sys2Proof.Machine.execLoad128 va s
  | .store8 va v => Sys2Proof.Machine.execStore8 va v s
  | .store16 va v => Sys2Proof.Machine.execStore16 va v s
  | .store32 va v => Sys2Proof.Machine.execStore32 va v s
  | .store64 va v => Sys2Proof.Machine.execStore64 va v s
  | .store128 va v => Sys2Proof.Machine.execStore128 va v s

end Sys2Proof.Machine
end

