-- ==== Sys2Proof/Machine/Step.lean ====
section
/-!
DEFINITION. One step of the block: the next move of one agent, and the instruction it reads, if it reads one.
-/

namespace Sys2Proof.Machine

/-- One step (00_scope.md R7, 20_memory.md R113, R120). -/
def step (s : State) : Host.Outcome State Fault Refusal :=
  match s.nextMove with
  | .run i s' => exec i s'
  | .done r => r

/-- `s` with the instruction whose bits are `w` where the next step reads it (log 21). -/
def State.withFetchWord (s : State) (nbits w : Nat) : State := s.placeWord nbits w

end Sys2Proof.Machine
end

