-- ==== Sys2Proof/Safety.lean ====
section
/-!
DEFINITION. What holds of a state of the block in every run: the invariants that the spec states for the whole machine,
as predicates that the statements about a step use, each about every state with the form it names, reachable or not. Then
the runs of the block and the fairness that the spec assumes of them.
-/

namespace Sys2Proof.Machine

/-! ### Data forms -/

/-- Every backing memory, the generic cells and the page-map overrides are in canonical form (10_state.md R37, R60, R70:
one value for each address). -/
def State.memoryCanonical (s : State) : Prop :=
  s.mem.ram.wf ∧ s.mem.spr.wf ∧ s.mem.iopRam.wf ∧ (∀ e ∈ s.mem.extra, e.mem.wf) ∧ cellsWf (0 : Word) s.gen
    ∧ s.vtlb.vmap.Pairwise (fun x y => x.1 < y.1)

/-- Every FIFO is within its capacity, and an IOP half owes at most three pad words (10_state.md R51, R52, R55, R56). -/
def State.fifosBounded (s : State) : Prop :=
  (∀ f, (s.sif.get f).fifo.length ≤ s.params.sifFifoWords ∧ (s.sif.get f).iop.writeJunk ≤ 3)
    ∧ s.ipu.inFifo.length ≤ s.params.ipuFifoQw ∧ s.ipu.outFifo.length ≤ s.params.ipuFifoQw

/-- The VTLB initialiser has run once or not at all, and its table and permission are those of before or after it: the
code page is never writable and executable at once (44_vtlb.md R505, R506, R510). -/
def State.vtlbWriteXorExec (s : State) : Prop :=
  (s.vtlb.init = false ∧ s.vtlb.dispatch = [] ∧ s.vtlb.codePerm = .none ∧ s.vtlb.genCount = 0)
    ∨ (s.vtlb.init = true ∧ s.vtlb.dispatch = validSelectors ∧ s.vtlb.codePerm = .rx ∧ s.vtlb.genCount = 1)

/-- ENABLER is the shadow of ENABLEW (10_state.md R36). -/
def State.enablerMirrors (s : State) : Prop := s.g.enabler = s.g.enablew

/-- The reserved status bits 12:10 of STAT are 0: no rule sets them (30_encoding.md R175, 40_registers.md R232). -/
def State.statReservedClear (s : State) : Prop := s.g.stat.extractLsb' 10 3 = 0

/-! ### The run invariant -/

/-- STR = 0 exactly when the engine is Idle (10_state.md R41). -/
def State.busyAgrees (s : State) : Prop := ∀ c, s.str c = false ↔ (s.eng.get c).phase = .idle

/-- A queued start belongs to a busy channel in phase Queued (10_state.md R42). -/
def State.queuedAgrees (s : State) : Prop :=
  ∀ c, s.isQueued c = true → s.str c = true ∧ (s.eng.get c).phase = .queued

/-- A pending completion belongs to a completing engine (60_exceptions.md R607). -/
def State.eventAgrees (s : State) : Prop :=
  ∀ c, c.inScope = true → s.ev.get c ≠ none → (s.eng.get c).phase = .completing

/-- The phases of 10_state.md R40: channels 0..2 are Idle, Queued or External, the others never External. Only the stall
drain in scope stalls (41_tag_walker.md R295), and only the IPU channels park (42_channel_engines.md R350). -/
def phaseLegal (c : Ch) (p : Phase) : Prop :=
  match p with
  | .idle | .queued => True
  | .external => c.inScope = false
  | .stalled => c = .sif1
  | .parked => c = .ipu0 ∨ c = .ipu1
  | .tagFetch | .transfer | .completing => c.inScope = true

/-- The modes channel `c` can run in (42_channel_engines.md R320, R321). -/
def modeLegal (c : Ch) (m : Mode) : Prop :=
  match m with
  | .normal => True
  | .interleave => c = .spr0 ∨ c = .spr1
  | .srcChain => c = .ipu1 ∨ c = .sif1 ∨ c = .spr1
  | .dstChain => c = .sif0 ∨ c = .spr0

/-- Whether a phase reads tags. -/
def readsTags (p : Phase) : Prop := p = .tagFetch ∨ p = .stalled

/-- Every engine is in a phase and a mode its channel has, and one that reads tags runs a chain. -/
def State.phasesLegal (s : State) : Prop :=
  ∀ c, phaseLegal c (s.eng.get c).phase ∧ modeLegal c (s.eng.get c).mode
    ∧ (readsTags (s.eng.get c).phase → (s.eng.get c).mode = .srcChain ∨ (s.eng.get c).mode = .dstChain)

/-- QWC is `rem` modulo 2^16 while a unit is under way, and equal to it but for the 0x10000 quadwords of the QWC = 0 quirk
(41_tag_walker.md R290, R291). -/
def State.countAgrees (s : State) : Prop :=
  ∀ c, (s.eng.get c).phase = .transfer ∨ (s.eng.get c).phase = .parked →
    (s.chan.get c).qwc = BitVec.ofNat 16 (s.eng.get c).rem ∧ (s.eng.get c).rem ≤ 0x10000
      ∧ ((s.eng.get c).mode ≠ .normal → (s.eng.get c).rem < 0x10000)

/-- A completing run has moved everything and its completion is pending (42_channel_engines.md R370, 60_exceptions.md
R606). -/
def State.completingAgrees (s : State) : Prop :=
  ∀ c, (s.eng.get c).phase = .completing →
    (s.eng.get c).rem = 0 ∧ (s.chan.get c).qwc = 0 ∧ s.ev.get c ≠ none

/-- The run invariant, of a state without a fault record: a start in an unsupported mode leaves STR set with no engine
running (42_channel_engines.md R322), and the machine stops there. -/
def State.runInv (s : State) : Prop :=
  s.faults = [] →
    s.busyAgrees ∧ s.queuedAgrees ∧ s.eventAgrees ∧ s.phasesLegal ∧ s.countAgrees ∧ s.completingAgrees

/-! ### The next action -/

/-- The action the next step takes (20_memory.md R120; log 1). -/
def State.head (s : State) : Action := s.nextAction.1

/-- From this state the machine goes on: there is no fault record (42_channel_engines.md R322) and no mark `refused`
(60_exceptions.md R602; log 6, log 7). -/
abbrev State.running (s : State) : Prop := s.faults = [] ∧ s.refused = none

/-! ### Runs and fairness -/

/-- The step of `s` that takes action `a`. -/
def State.act (s : State) (a : Action) : Result := step { s with env := { s.env with agenda := [a] } }

/-- Action `a` is enabled in `s`: it does more than hold (00_scope.md R15; log 1). -/
def State.enabled (s : State) (a : Action) : Prop := s.act a ≠ .next { s with env := { s.env with agenda := [] } }

/-- A state in which no agent of the block has a step and no event is pending: the end state of a run
(42_channel_engines.md R390). -/
def State.quiescent (s : State) : Prop :=
  (∀ c, ¬ s.enabled (.engine c 1) ∧ s.ev.get c = none)
    ∧ ∀ f, ¬ s.enabled (.iopHalf f 1) ∧ (s.sif.get f).iopEv = none

/-- A run: the agents take the actions `a 0`, `a 1`, … one after the other (20_memory.md R120). -/
def IsRun (a : Nat → Action) (s : Nat → State) : Prop :=
  ∀ n, (s n).env.agenda = [] ∧ (s n).act (a n) = .next (s (n + 1))

/-- An action that stays enabled is eventually taken (42_channel_engines.md R390); `taken` says which actions count, since
an engine's action carries a draw. -/
def WeaklyFair (a : Nat → Action) (s : Nat → State) (x : Action) (taken : Action → Prop) : Prop :=
  ∀ n, (∀ m, n ≤ m → (s m).enabled x) → ∃ m, n ≤ m ∧ taken (a m)

/-- The spec's progress assumption on a run (42_channel_engines.md R390, 60_exceptions.md R610, 00_scope.md R7): every
engine step, every step of an IOP half and every pending event that stays enabled is eventually taken. -/
def FairRun (a : Nat → Action) (s : Nat → State) : Prop :=
  IsRun a s
    ∧ (∀ c, WeaklyFair a s (.engine c 1) fun x => ∃ n, x = .engine c n)
    ∧ (∀ f, WeaklyFair a s (.iopHalf f 1) fun x => ∃ n, x = .iopHalf f n)
    ∧ (∀ c, WeaklyFair a s (.fire c) fun x => x = .fire c)
    ∧ ∀ f, WeaklyFair a s (.fireIop f) fun x => x = .fireIop f

end Sys2Proof.Machine
end

