-- ==== Sys2Proof/Certificates/Slice0/Obligations.lean ====
section
/-!
DEFINITION. The statements for the provers, from the numbered rules of spec/. The helper definitions under
Sys2Proof.Claims write out, in the spec's own terms, what a rule leaves in a register or an engine; none of them calls the
meaning it is compared with.
-/

namespace Sys2Proof.Claims
open Sys2Proof.Machine

/-! ### Helpers -/

/-- `s` with the agenda `l`: the first action of `l` is the one the next step takes (log 1). -/
def withAgenda (s : State) (l : List Action) : State := { s with env := { s.env with agenda := l } }

/-- STR, bit 8 of CHCR, of channel `c`. -/
def busy (s : State) (c : Ch) : Prop := (s.chan.get c).chcr.getLsbD 8 = true

/-- `DmacRunnable` (10_state.md R38): CTRL bit 0 is 1 and ENABLER bit 16 is 0. -/
def runnable (g : Globals) : Prop := g.ctrl.getLsbD 0 = true ∧ g.enabler.getLsbD 16 = false

/-- A channel register other than CHCR, with `v` stored. -/
def stored (d : Chan) (r : ChanReg) (v : Word) : Chan :=
  match r with
  | .chcr => d
  | .madr => { d with madr := v }
  | .qwc => { d with qwc := v.extractLsb' 0 16 }
  | .tadr => { d with tadr := v }
  | .asr0 => { d with asr0 := v }
  | .asr1 => { d with asr1 := v }
  | .sadr => { d with sadr := v }

/-- What a read of a channel register returns: QWC with bits 31:16 zero. -/
def shown (d : Chan) (r : ChanReg) : Word :=
  match r with
  | .chcr => d.chcr
  | .madr => d.madr
  | .qwc => (0 : BitVec 16) ++ d.qwc
  | .tadr => d.tadr
  | .asr0 => d.asr0
  | .asr1 => d.asr1
  | .sadr => d.sadr

/-- What a read of a global register returns. -/
def shownGlobal (g : Globals) (r : GlobalReg) : Word :=
  match r with
  | .ctrl => g.ctrl
  | .stat => g.stat
  | .pcr => g.pcr
  | .sqwc => g.sqwc
  | .rbsr => g.rbsr
  | .rbor => g.rbor
  | .stadr => g.stadr
  | .enabler => g.enabler
  | .enablew => g.enablew

/-- The CHCR value committed by a write that starts a channel: MOD = 3 becomes MOD = 1 under the quirk (40_registers.md
R214). -/
def committed (p : Params) (v : Word) : Word :=
  if v.extractLsb' 2 2 = 3 ∧ p.mod3AsChain = true then (v &&& ~~~0x0000000C) ||| 0x00000004 else v

/-- The modes of 42_channel_engines.md R321 (0 normal, 1 chain, 2 interleave). -/
def modes (c : Ch) : List (BitVec 2) :=
  match c with
  | .ipu0 | .sif2 => [0]
  | .ipu1 | .sif0 | .sif1 => [0, 1]
  | .spr0 | .spr1 => [0, 1, 2]
  | .vif0 | .vif1 | .gif => []

/-- `EndFromCachedTag` (41_tag_walker.md R285) of a source chain. -/
def endsSource (chcr : Word) : Bool :=
  chcr.extractLsb' 28 3 == 0 || chcr.extractLsb' 28 3 == 7 || (chcr.extractLsb' 28 3 == 6 && chcr.extractLsb' 4 2 == 0)
    || (chcr.getLsbD 7 && chcr.getLsbD 31)

/-- `EndFromCachedTag` (41_tag_walker.md R285) of a destination chain. -/
def endsDestination (chcr : Word) : Bool :=
  chcr.extractLsb' 28 3 == 7 || (chcr.getLsbD 7 && chcr.getLsbD 31)

/-- The engine a start leaves (42_channel_engines.md R320, 41_tag_walker.md R285, R290), for a mode the channel supports:
`chcr` and `qwc` are the channel's registers, `e` the engine before. -/
def started (p : Params) (c : Ch) (chcr : Word) (qwc : BitVec 16) (e : Engine) : Engine :=
  let dst : Bool := c == .sif0 || c == .spr0
  match (chcr.extractLsb' 2 2).toNat with
  | 0 =>
    { phase := .transfer, mode := .normal, last := true, blk := 0, cnts := false, cycles := 0
      rem := if qwc = 0 ∧ p.normalQwc0Full = true then 0x10000 else qwc.toNat }
  | 2 =>
    { phase := .transfer, mode := .interleave, last := true, blk := 0, cnts := false, cycles := 0, rem := qwc.toNat }
  | _ =>
    if qwc = 0 then
      { phase := .tagFetch, mode := if dst then .dstChain else .srcChain, last := false, blk := 0, cnts := false
        cycles := 0, rem := e.rem }
    else
      { phase := .transfer, mode := if dst then .dstChain else .srcChain
        last := if dst then endsDestination chcr else endsSource chcr
        blk := 0, cnts := false, cycles := 0, rem := qwc.toNat }

/-- A start of channel `c` with MOD `m` is the model fault (42_channel_engines.md R322): a mode a channel in scope does not
support, and MOD = 3 that the quirk does not coerce (40_registers.md R214), on a channel 0..2 too (log 29). -/
def unsupported (p : Params) (c : Ch) (m : BitVec 2) : Prop :=
  (c.inScope = true ∧ m ∉ modes c) ∨ (c.inScope = false ∧ m = 3 ∧ p.mod3AsChain = false)

/-- What a drain of the queued starts leaves (40_registers.md R245): a queued, busy channel starts if the DMAC is then
runnable (`r`), and nothing else changes. One start that faults does not keep the drain from the other channels: that is the
model's reading (log 6). -/
def Drained (r : Prop) (s s' : State) : Prop :=
  (∀ c,
    let d := s.chan.get c
    let m := d.chcr.extractLsb' 2 2
    (s.isQueued c = true ∧ busy s c ∧ r →
      s'.isQueued c = false
        ∧ (unsupported s.params c m → s'.eng.get c = s.eng.get c)
        ∧ (¬ unsupported s.params c m → c.inScope = false → s'.eng.get c = { s.eng.get c with phase := .external })
        ∧ (¬ unsupported s.params c m → c.inScope = true →
          s'.eng.get c = started s.params c d.chcr d.qwc (s.eng.get c)))
    ∧ (¬ (s.isQueued c = true ∧ busy s c ∧ r) → s'.isQueued c = s.isQueued c ∧ s'.eng.get c = s.eng.get c))
  ∧ ∀ x, x ∈ s'.faults ↔ x ∈ s.faults ∨ ∃ c, s.isQueued c = true ∧ busy s c ∧ r
      ∧ unsupported s.params c ((s.chan.get c).chcr.extractLsb' 2 2)
      ∧ x = .unsupportedMode c ((s.chan.get c).chcr.extractLsb' 2 2)

/-- The bases, sizes and permissions of the extra regions (00_scope.md R9). -/
def layout (s : State) : List (Nat × Nat × Bool) := s.mem.extra.map fun e => (e.base, e.size, e.writable)

/-- The memories are laid out as before, and every byte of every memory reads as before. -/
def SameBytes (s s' : State) : Prop := layout s' = layout s ∧ ∀ r a, s'.readByte r a = s.readByte r a

/-- The memories are laid out as before, and every byte outside the `n` bytes at `(r, a)` reads as before. -/
def SameBytesOutside (s s' : State) (r : Region) (a n : Nat) : Prop :=
  layout s' = layout s ∧ ∀ q b, ¬ (q = r ∧ a ≤ b ∧ b < a + n) → s'.readByte q b = s.readByte q b

/-- The bytes `v` lie at `(r, a)`, least significant first. -/
def BytesAt (s : State) (r : Region) (a n : Nat) (v : Quad) : Prop :=
  ∀ i, i < n → s.readByte r (a + i) = v.extractLsb' (8 * i) 8

/-- The address after a link's data: `T + 16 + 16·Q` (41_tag_walker.md R263, R270). -/
def afterLink (T : Word) (t : Tag) : Word := T + 16 + 16 * t.qwc.setWidth 32

/-- CHCR after a tag: the tag's bits 31:16 in TAG, the stack pointer `asp`, and the other bits kept. -/
def chcrAfter (chcr : Word) (id : BitVec 3) (t : Tag) (asp : BitVec 2) : Word :=
  (t.irq ++ (id ++ (t.pce ++ t.rsv))) ++ (chcr.extractLsb' 6 10 ++ (asp ++ chcr.extractLsb' 0 4))

/-- What a source tag leaves in its channel: the registers, SADR apart (a TTE action on SPR1 may advance it), and the
engine, whose end flag is `last` or the tag interrupt (41_tag_walker.md R261, R280). -/
def AfterSrcTag (c : SrcCh) (id : BitVec 3) (t : Tag) (s s' : State) (madr tadr asr0 asr1 : Word) (asp : BitVec 2)
    (last : Bool) : Prop :=
  s'.chan.get c.toCh =
      { chcr := chcrAfter (s.chan.get c.toCh).chcr id t asp
        madr := madr, qwc := t.qwc, tadr := tadr, asr0 := asr0, asr1 := asr1, sadr := (s'.chan.get c.toCh).sadr }
    ∧ s'.eng.get c.toCh =
      { s.eng.get c.toCh with
        phase := .transfer
        rem := t.qwc.toNat
        last := last || ((s.chan.get c.toCh).chcr.getLsbD 7 && t.irq == 1) }

/-- A source tag with no effect on the address stack. -/
def AfterPlainTag (c : SrcCh) (id : BitVec 3) (t : Tag) (s s' : State) (madr tadr : Word) (last : Bool) : Prop :=
  AfterSrcTag c id t s s' madr tadr (s.chan.get c.toCh).asr0 (s.chan.get c.toCh).asr1
    ((s.chan.get c.toCh).chcr.extractLsb' 4 2) last

/-- The stall condition of a REFS tag (41_tag_walker.md R266, R295): SIF1 is the drain and the link would read past
STADR, in natural numbers. -/
def stalls (c : SrcCh) (t : Tag) (s : State) : Prop :=
  c = .sif1 ∧ s.g.ctrl.extractLsb' 6 2 = 3 ∧ s.g.stadr.toNat % 2 ^ 31 < t.a.toNat % 2 ^ 31 + 16 * t.qwc.toNat

/-- Channel `c` is the stall source of CTRL.STS (1 SIF0, 2 SPR0, 3 IPU0) and its run updates STADR: Normal mode or a CNTS
link (41_tag_walker.md R296). -/
def stallSource (s : State) (c : Ch) : Prop :=
  ((c = .sif0 ∧ s.g.ctrl.extractLsb' 4 2 = 1) ∨ (c = .spr0 ∧ s.g.ctrl.extractLsb' 4 2 = 2)
      ∨ (c = .ipu0 ∧ s.g.ctrl.extractLsb' 4 2 = 3))
    ∧ ((s.eng.get c).mode = .normal ∨ ((s.eng.get c).mode = .dstChain ∧ (s.eng.get c).cnts = true))

/-- The eight source tags of a channel. -/
def srcTags (c : SrcCh) (t : Tag) : List Instr :=
  [.srcRefe c t, .srcCnt c t, .srcNext c t, .srcRef c t, .srcRefs c t, .srcCall c t, .srcRet c t, .srcEnd c t]

/-- What a destination tag leaves (41_tag_walker.md R298). -/
def afterDstTag (c : DstCh) (id : BitVec 3) (t : Tag) (last : Bool) (s : State) : State :=
  { s with
    chan := s.chan.set c.toCh
      { s.chan.get c.toCh with
        chcr := (t.irq ++ (id ++ (t.pce ++ t.rsv))) ++ (s.chan.get c.toCh).chcr.extractLsb' 0 16
        qwc := t.qwc
        madr := t.a }
    eng := s.eng.set c.toCh
      { s.eng.get c.toCh with
        phase := .transfer
        rem := t.qwc.toNat
        cnts := id == 0
        last := last || ((s.chan.get c.toCh).chcr.getLsbD 7 && t.irq == 1) } }

/-- Pad words after `w` words: `(4 − w mod 4) mod 4` (43_fifo_sif.md R427). -/
def padWords (w : Nat) : Nat := (4 - w % 4) % 4

/-- The value of bytes, least significant first. -/
def leNat : List Byte → Nat
  | [] => 0
  | b :: bs => b.toNat + 256 * leNat bs

/-- The value of the `n` bytes at `(r, a)`. -/
def valueAt (s : State) (r : Region) (a n : Nat) : Nat := leNat ((List.range n).map fun i => s.readByte r (a + i))

/-- `n` of `bits` bits, sign-extended to 64. -/
def signed64 (bits n : Nat) : BitVec 64 :=
  BitVec.ofInt 64 (if n < 2 ^ (bits - 1) then (n : Int) else (n : Int) - 2 ^ bits)

/-- The dispatchers have been generated (44_vtlb.md R505). -/
def initialised (s : State) : Prop := s.vtlb.init = true ∧ s.vtlb.dispatch = validSelectors

/-- The page number and the offset of a guest address, which has `VaddrBits` bits (44_vtlb.md R480). -/
def page (s : State) (va : Word) : Nat := va.toNat % 2 ^ s.params.vaddrBits / 2 ^ s.params.vtlbPageBits
def offset (s : State) (va : Word) : Nat := va.toNat % 2 ^ s.params.vtlbPageBits

/-- The guest address `va` names byte `off` of memory `r`, and `n` bytes exist there (44_vtlb.md R481, R485). -/
def Maps (s : State) (va : Word) (r : Region) (off n : Nat) : Prop :=
  (∃ base, s.vtlbEntry (page s va) = .direct r base ∧ off = base + offset s va) ∧ off + n ≤ s.regionSize r

/-- `s` with `x` returned to the host. -/
def returned (s : State) (x : Returned) : State := { s with env := { s.env with ret := x } }

/-- The 13 accesses with their widths. -/
def accesses (va : Word) (v : Quad) : List (Instr × Width) :=
  [(.load8u va, .w8), (.load8s va, .w8), (.load16u va, .w16), (.load16s va, .w16), (.load32u va, .w32),
   (.load32s va, .w32), (.load64 va, .w64), (.load128 va, .w128), (.store8 va v, .w8), (.store16 va v, .w16),
   (.store32 va v, .w32), (.store64 va v, .w64), (.store128 va v, .w128)]

/-- The eight loads with their widths and what they return of the value `q` they read (44_vtlb.md R491). -/
def loads (va : Word) (q : Quad) : List (Instr × Width × Returned) :=
  [(.load8u va, .w8, .dword ((q.extractLsb' 0 8).setWidth 64)),
   (.load8s va, .w8, .dword ((q.extractLsb' 0 8).signExtend 64)),
   (.load16u va, .w16, .dword ((q.extractLsb' 0 16).setWidth 64)),
   (.load16s va, .w16, .dword ((q.extractLsb' 0 16).signExtend 64)),
   (.load32u va, .w32, .dword ((q.extractLsb' 0 32).setWidth 64)),
   (.load32s va, .w32, .dword ((q.extractLsb' 0 32).signExtend 64)),
   (.load64 va, .w64, .dword (q.extractLsb' 0 64)), (.load128 va, .w128, .quad q)]

/-- The five stores with their widths and the value they store of `v` (44_vtlb.md R492). -/
def stores (va : Word) (v : Quad) : List (Instr × Width × Quad) :=
  [(.store8 va v, .w8, v &&& 0xFF), (.store16 va v, .w16, v &&& 0xFFFF), (.store32 va v, .w32, v &&& 0xFFFFFFFF),
   (.store64 va v, .w64, v &&& 0xFFFFFFFFFFFFFFFF), (.store128 va v, .w128, v)]

/-- An access of width `w` at `va` calls handler `h`, which is not the DMAC's, with `pa`: the page's own handler, or the MMU
model's default handler where a byte of a Direct page does not exist (44_vtlb.md R482, R485; log 14). -/
def Calls (s : State) (va : Word) (w : Width) (h : HandlerId) (pa : Word) : Prop :=
  (h ≠ .dmac ∧ ∃ pb, s.vtlbEntry (page s va) = .handler h pb ∧ pa = pb + BitVec.ofNat 32 (offset s va))
    ∨ (h = .default ∧ pa = va ∧ ∃ r base, s.vtlbEntry (page s va) = .direct r base
        ∧ s.regionSize r < base + offset s va + w.bytes)

/-- `s` marked `refused` (10_state.md R80, 60_exceptions.md R602). -/
def refusing (s : State) (e : Refusal) : State := { s with refused := some e }

/-- The five stores. -/
def isStore : Instr → Prop
  | .store8 _ _ | .store16 _ _ | .store32 _ _ | .store64 _ _ | .store128 _ _ => True
  | _ => False

/-- What a bus error of channel `c` leaves (41_tag_walker.md R286). -/
def halted (s : State) (c : Ch) : State :=
  { s with
    g := { s.g with stat := s.g.stat ||| 0x00008000 }
    chan := s.chan.set c { s.chan.get c with chcr := (s.chan.get c).chcr &&& ~~~0x00000100 }
    eng := s.eng.set c { s.eng.get c with phase := .idle, last := false, rem := 0 }
    ev := s.ev.set c none
    queued := s.queued &&& ~~~((1 : BitVec 10) <<< c.num) }

/-- Whether channel `c` moves quadwords to memory: IPU0, SIF0, SPR0, and SIF2 with DIR = 0 (30_encoding.md R161). -/
def writesMemory (s : State) (c : Ch) : Bool :=
  c == .ipu0 || c == .sif0 || c == .spr0 || (c == .sif2 && (s.chan.get .sif2).chcr.getLsbD 0 == false)

/-- What the end of a unit of channel `c` leaves (42_channel_engines.md R329, R370, 43_fifo_sif.md R414, R422, R432, R441):
a link of a chain that is not the last goes to the next tag; any other unit completes, with its event at least one cycle
later, and on a SIF channel the cycles and the end mark cleared. -/
def unitEnded (s : State) (c : Ch) : State :=
  let e := s.eng.get c
  if (e.mode = .srcChain ∨ e.mode = .dstChain) ∧ e.last = false then
    { s with eng := s.eng.set c { e with phase := .tagFetch } }
  else
    { s with
      ev := s.ev.set c (some (max 1 e.cycles))
      eng := s.eng.set c
        (if c = .sif0 ∨ c = .sif1 ∨ c = .sif2 then { e with phase := .completing, cycles := 0, last := false }
         else { e with phase := .completing }) }

/-- MADR of channel `c` after `n` quadwords (42_channel_engines.md R327): 16 for each, on SPR0 with MFD 2 or 3 put back into
the ring of RBOR and RBSR each time. -/
def madrAfter (s : State) (c : Ch) : Nat → Word
  | 0 => (s.chan.get c).madr
  | n + 1 =>
    if c = .spr0 ∧ s.g.ctrl.getLsbD 3 = true then
      (s.g.rbor &&& 0x7FFFFFFF) + ((madrAfter s c n + 16) &&& s.g.rbsr &&& 0x7FFFFFF0)
    else madrAfter s c n + 16

/-- Whether the peripheral of channel `c` lets a quadword move (42_channel_engines.md R340, R345, R358, R364,
43_fifo_sif.md R421, R431, R441): IPU0's FIFO holds one; IPU1 has a request and room; a SIF channel that writes memory finds
four words in its FIFO, one that reads memory room for four; the scratchpad always. -/
def canMove (s : State) (c : Ch) : Prop :=
  match c with
  | .ipu0 => s.ipu.outFifo ≠ []
  | .ipu1 => s.ipu.dataRequested = true ∧ 0 < s.ipuInFree
  | .sif0 => 4 ≤ (s.sif.get .sif0).fifo.length
  | .sif1 => 4 ≤ s.sifFree .sif1
  | .sif2 => if writesMemory s .sif2 = true then 4 ≤ (s.sif.get .sif2).fifo.length else 4 ≤ s.sifFree .sif2
  | .spr0 | .spr1 => True
  | .vif0 | .vif1 | .gif => False

/-- The counts after channel `c` has moved a quadword (42_channel_engines.md R325, R331): QWC counts down modulo 2^16 and `rem`
by one. In interleave mode the block counts up, and at its end (TQWC quadwords, or the end of the run) MADR skips and the
count restarts. -/
def counted (s : State) (c : Ch) : State :=
  let d := s.chan.get c
  let e := s.eng.get c
  let tq := (s.g.sqwc.extractLsb' 16 8).toNat
  if e.mode = .interleave ∧ ((tq ≠ 0 ∧ e.blk + 1 = tq) ∨ e.rem - 1 = 0) then
    { s with
      chan := s.chan.set c
        { d with qwc := d.qwc - 1, madr := d.madr + 16 * (s.g.sqwc.extractLsb' 0 8).setWidth 32 }
      eng := s.eng.set c { e with rem := e.rem - 1, blk := 0 } }
  else
    { s with
      chan := s.chan.set c { d with qwc := d.qwc - 1 }
      eng := s.eng.set c { e with rem := e.rem - 1, blk := if e.mode = .interleave then e.blk + 1 else e.blk } }

/-- The host writes a value with bit `b` set to STAT: by an access to its address, or by a 32-bit store on a page that the
DMAC handler serves (40_registers.md R200, 44_vtlb.md R492). -/
def WritesOneToStat (s : State) (b : Nat) : Prop :=
  ∃ v : Quad, v.getLsbD b = true ∧
    (s.head = .hostWrite .w32 0x1000E010 v
      ∨ ∃ va pb, s.vtlbEntry (page s va) = .handler .dmac pb ∧ pb + BitVec.ofNat 32 (offset s va) = 0x1000E010
          ∧ (s.head = .dispatch 0x14 va v ∨ ∃ sign, s.head = .interpret true .w32 sign va v))

/-- `s` with SIF channel `f` replaced. -/
def withSif (s : State) (f : Sif) (x : SifChan) : State := { s with sif := s.sif.set f x }

end Sys2Proof.Claims

open Sys2Proof Sys2Proof.Machine Sys2Proof.Claims

/-! ### Encoding -/

/-- Words written out from the encoding tables decode to what they stand for: V-T-2, V-T-7, V-E-10, V-F-3, V-L1-8, V-V-1
(30_encoding.md R150, R151, R153, R155 for the four tags; R180, R181, R182, R190 for which register or dispatcher the others
name). The spec gives a host command no bytes: the layout of the last five clauses (address, then value; selector, address,
value; each least significant byte first) is the model's choice (log 17). -/
def Obligations.WordsOfTheSpecDecode : Prop :=
  decode (.srcTag .spr1) (leBytes 16 0x00000000000000000000000010000002) =
      .ok (.srcCnt .spr1 ⟨2, 0, 0, 0, 0, 0⟩)
    ∧ decode (.srcTag .sif1) (leBytes 16 0x00000000000000008000010030000001) =
      .ok (.srcRef .sif1 ⟨1, 0, 0, 0, 0x80000100, 0⟩)
    ∧ decode (.dstTag .spr0) (leBytes 16 0x00000000000000000000400070000000) =
      .ok (.dstEnd .spr0 ⟨0, 0, 0, 0, 0x4000, 0⟩)
    ∧ decode .iopTagSif0 (leBytes 16 0x00005000700000020000000840001000) =
      .ok (.iopTagSif0 ⟨0x1000, 0, 1, 0, 8, 0, 0x70000002, 0x5000⟩)
    ∧ decode .mmioWrite [0x20, 0xD4, 0x00, 0x10, 0x04, 0x00, 0x00, 0x00] = .ok (.swD9Qwc 4)
    ∧ decode .mmioWrite [0x90, 0xF5, 0x00, 0x10, 0x00, 0x00, 0x01, 0x00] = .ok (.swEnablew 0x10000)
    ∧ decode .mmioRead [0x10, 0xE0, 0x00, 0x10] = .ok .lwStat
    ∧ decode .mmioRead [0x70, 0xE0, 0x00, 0x10] = .ok (.lwGen 0x1000E070)
    ∧ decode .dispatch (0x03 :: leBytes 20 0x100) = .ok (.load16s 0x100)

/-- Decoding the bytes of a well-formed instruction gives it back, whatever follows them: every operand at every value
(30_encoding.md). -/
def Obligations.DecodeOfEncode : Prop :=
  ∀ i : Instr, i.wellFormed = true → ∀ rest : List Byte, decode i.port (encode i ++ rest) = .ok i

/-- What decodes is well formed, belongs to the port, and encodes to the bytes it was read from: of a dispatcher call the
selector and the address, of any other instruction all of them (30_encoding.md R150 to R190, R197). -/
def Obligations.EncodeOfDecode : Prop :=
  ∀ (p : Port) (bs : List Byte) (i : Instr), decode p bs = .ok i →
    i.port = p ∧ i.wellFormed = true ∧
      (if p = .dispatch then (encode i).take 5 = bs.take 5 else encode i = bs.take p.length)

/-- `DecodeMmio` is the address map (30_encoding.md R180, R181, R182, R185). -/
def Obligations.MmioDecodeIsTheAddressMap : Prop :=
  ∀ addr : Word,
    (∀ c r, decodeMmio addr = .chan c r ↔ addr = c.base + r.offset)
      ∧ (∀ g, decodeMmio addr = .global g ↔ addr = g.addr)
      ∧ (decodeMmio addr = .unaligned ↔ addr.toNat % 4 ≠ 0)
      ∧ (∀ a, decodeMmio addr = .generic a ↔
          a = addr ∧ addr.toNat % 4 = 0 ∧ 0x10008000 ≤ addr.toNat ∧ addr.toNat ≤ 0x1000EFFC
            ∧ (∀ c r, addr ≠ Ch.base c + ChanReg.offset r) ∧ ∀ g, addr ≠ GlobalReg.addr g)
      ∧ (decodeMmio addr = .outside ↔
          addr.toNat % 4 = 0 ∧ ¬ (0x10008000 ≤ addr.toNat ∧ addr.toNat ≤ 0x1000EFFC) ∧ ∀ g, addr ≠ GlobalReg.addr g)

/-- The dispatcher set is the 13 selectors, and a call of any other is refused: it only sets the mark (30_encoding.md R190,
44_vtlb.md R495, R496). -/
def Obligations.DispatcherSelectorSet : Prop :=
  ∀ (va : Word) (v : Quad),
    dispatcher? 0x00 va v = some (.load8u va) ∧ dispatcher? 0x01 va v = some (.load8s va)
      ∧ dispatcher? 0x02 va v = some (.load16u va) ∧ dispatcher? 0x03 va v = some (.load16s va)
      ∧ dispatcher? 0x04 va v = some (.load32u va) ∧ dispatcher? 0x05 va v = some (.load32s va)
      ∧ dispatcher? 0x06 va v = some (.load64 va) ∧ dispatcher? 0x08 va v = some (.load128 va)
      ∧ dispatcher? 0x10 va v = some (.store8 va v) ∧ dispatcher? 0x12 va v = some (.store16 va v)
      ∧ dispatcher? 0x14 va v = some (.store32 va v) ∧ dispatcher? 0x16 va v = some (.store64 va v)
      ∧ dispatcher? 0x18 va v = some (.store128 va v)
      ∧ ∀ (sel : BitVec 5) (s : State) (rest : List Action),
          sel ∉ ([0x00, 0x01, 0x02, 0x03, 0x04, 0x05, 0x06, 0x08, 0x10, 0x12, 0x14, 0x16, 0x18] : List (BitVec 5)) →
            s.running →
              step (withAgenda s (.dispatch sel va v :: rest)) =
                .next (refusing (withAgenda s rest) (.notADispatcher sel))

/-! ### The step -/

/-- A step whose action reads an instruction is `exec` of what the bytes decode to, on the state with the action taken
off the agenda and, where the tag comes off a stream, the tag quadword consumed (00_scope.md R7, 41_tag_walker.md R261,
43_fifo_sif.md R420, R427, R430, R434, 42_channel_engines.md R360; the agenda is the model's own, log 1). That SPR0's SADR
then has its bits 3:0 clear, where 20_memory.md R104 keeps them, is the model's choice (log 30). -/
def Obligations.StepRunsDecodedInstruction : Prop :=
  ∀ (s : State) (rest : List Action) (i : Instr), s.running →
    (∀ addr v, decode .mmioWrite (encodeWrite addr (v.setWidth 32)) = .ok i →
      step (withAgenda s (.hostWrite .w32 addr v :: rest)) = exec i (withAgenda s rest))
    ∧ (∀ addr, decode .mmioRead (encodeRead addr) = .ok i →
      step (withAgenda s (.hostRead .w32 addr :: rest)) = exec i (withAgenda s rest))
    ∧ (∀ sel va v, decode .dispatch (encodeDispatch sel va v) = .ok i →
      step (withAgenda s (.dispatch sel va v :: rest)) = exec i (withAgenda s rest))
    ∧ (∀ (c : SrcCh) n l, runnable s.g → (s.eng.get c.toCh).phase = .tagFetch → (s.eng.get c.toCh).mode = .srcChain →
      (c = .sif1 → (s.chan.get .sif1).chcr.getLsbD 6 = true → 2 ≤ s.sifFree .sif1) →
      s.dmaAddr (s.chan.get c.toCh).tadr false = some l →
      decode (.srcTag c) ((s.mem.get l.region).readBytes l.off 16) = .ok i →
      step (withAgenda s (.engine c.toCh n :: rest)) = exec i (withAgenda s rest))
    ∧ (∀ n w0 w1 w2 w3 ws, runnable s.g → (s.eng.get .sif0).phase = .tagFetch → (s.eng.get .sif0).mode = .dstChain →
      (s.sif.get .sif0).fifo = w0 :: w1 :: w2 :: w3 :: ws →
      decode (.dstTag .sif0) (leBytes 16 (w3 ++ (w2 ++ (w1 ++ w0)))) = .ok i →
      step (withAgenda s (.engine .sif0 n :: rest)) =
        exec i { withAgenda s rest with sif := s.sif.set .sif0 { s.sif.get .sif0 with fifo := ws } })
    ∧ (∀ n, runnable s.g → (s.eng.get .spr0).phase = .tagFetch → (s.eng.get .spr0).mode = .dstChain →
      decode (.dstTag .spr0) (s.mem.spr.readBytes ((s.chan.get .spr0).sadr &&& 0x3FF0).toNat 16) = .ok i →
      step (withAgenda s (.engine .spr0 n :: rest)) =
        exec i { withAgenda s rest with
          chan := s.chan.set .spr0 { s.chan.get .spr0 with sadr := ((s.chan.get .spr0).sadr + 16) &&& 0x3FF0 } })
    ∧ (∀ n, (s.sif.get .sif0).iop.busy = true → (s.sif.get .sif0).iop.counter = 0 →
      (s.sif.get .sif0).iop.writeJunk = 0 → (s.sif.get .sif0).iop.last = false → 4 ≤ s.sifFree .sif0 →
      decode .iopTagSif0 (leBytes 16 (s.iopRead ((s.sif.get .sif0).iopTadr + 12)
        ++ (s.iopRead ((s.sif.get .sif0).iopTadr + 8) ++ (s.iopRead ((s.sif.get .sif0).iopTadr + 4)
        ++ s.iopRead (s.sif.get .sif0).iopTadr)))) = .ok i →
      step (withAgenda s (.iopHalf .sif0 n :: rest)) = exec i (withAgenda s rest))
    ∧ (∀ n w0 w1 w2 w3 ws, (s.sif.get .sif1).iop.busy = true → (s.sif.get .sif1).iop.counter = 0 →
      (s.sif.get .sif1).iop.writeJunk = 0 → (s.sif.get .sif1).iop.last = false →
      (s.sif.get .sif1).fifo = w0 :: w1 :: w2 :: w3 :: ws →
      decode .iopTagSif1 (leBytes 16 (w3 ++ (w2 ++ (w1 ++ w0)))) = .ok i →
      step (withAgenda s (.iopHalf .sif1 n :: rest)) = exec i (withAgenda s rest))

/-! ### Reset -/

/-- The reset state (10_state.md R90, 70_reset_and_hazards.md R700); the memories' content is the launch's and is not
stated. -/
def Obligations.ResetValues : Prop :=
  (∀ c, State.reset.chan.get c =
      { chcr := 0, madr := 0, qwc := 0, tadr := 0, asr0 := 0, asr1 := 0, sadr := 0 })
    ∧ State.reset.g =
      { ctrl := 0, stat := 0, pcr := 0, sqwc := 0, rbsr := 0, rbor := 0, stadr := 0, enablew := 0, enabler := 0 }
    ∧ (∀ a, State.reset.genRead a = 0)
    ∧ (∀ c, State.reset.eng.get c =
      { phase := .idle, mode := .normal, rem := 0, last := false, blk := 0, cnts := false, cycles := 0 })
    ∧ State.reset.queued = 0
    ∧ (∀ c, State.reset.ev.get c = none)
    ∧ (∀ f, State.reset.sif.get f =
      { fifo := [], iop := { busy := false, last := false, counter := 0, writeJunk := 0, cycles := 0 }
        iopMadr := 0, iopTadr := 0, iopEv := none })
    ∧ State.reset.ipu = { inFifo := [], outFifo := [], dataRequested := false }
    ∧ State.reset.vtlb.init = false ∧ State.reset.vtlb.dispatch = [] ∧ State.reset.vtlb.codePerm = .none
    ∧ State.reset.vtlb.genCount = 0
    ∧ (∀ p, State.reset.vtlbEntry p = Config.vtlbInitialMap p)
    ∧ State.reset.faults = [] ∧ State.reset.refused = none

/-- The reset state meets every invariant the statements below say a step keeps; its parameters, which no step changes, meet
the spec's constraints (43_fifo_sif.md R471, 44_vtlb.md R480, R493); and no agent of the block has a step in it
(42_channel_engines.md R390). -/
def Obligations.ResetMeetsTheInvariants : Prop :=
  State.reset.memoryCanonical ∧ State.reset.fifosBounded ∧ State.reset.runInv ∧ State.reset.vtlbWriteXorExec
    ∧ State.reset.enablerMirrors ∧ State.reset.statReservedClear ∧ State.reset.params.valid ∧ State.reset.running
    ∧ State.reset.quiescent

/-- The reset action (70_reset_and_hazards.md R700, R701): every piece of the block's state takes its reset value; the
memories and the parameters are kept, and so are the model's own fields, which is the model's choice (log 20). From a state
with a fault record or the mark `refused` no action is taken, reset included (log 6). -/
def Obligations.ResetActionRestoresTheBlock : Prop :=
  ∀ (s : State) (rest : List Action), s.running →
    step (withAgenda s (.reset :: rest)) =
      .next { State.reset with mem := s.mem, params := s.params, env := { s.env with agenda := rest } }

/-! ### Invariants of every step -/

/-- Every step keeps the memories, the generic cells and the page-map overrides in canonical form. -/
def Obligations.StepKeepsMemoryCanonical : Prop :=
  ∀ s s' : State, s.memoryCanonical → step s = .next s' → s'.memoryCanonical

/-- Every step keeps every FIFO within its capacity and every pad count at most 3 (10_state.md R51, R52, R55, R56,
43_fifo_sif.md R400). -/
def Obligations.StepKeepsFifosBounded : Prop :=
  ∀ s s' : State, s.fifosBounded → step s = .next s' → s'.fifosBounded

/-- Every step keeps the run invariant: STR and the phase agree, queued starts and pending completions belong to engines
in their phases, the phases and modes are the channel's own, and QWC agrees with the quadwords left (10_state.md R40, R41,
R42, 41_tag_walker.md R291, 60_exceptions.md R606, R607). It speaks of states without a fault record (log 6). -/
def Obligations.StepKeepsRunInvariant : Prop :=
  ∀ s s' : State, s.runInv → step s = .next s' → s'.runInv

/-- Every step keeps the code page from being writable and executable at once, and the initialiser's work done at most
once (44_vtlb.md R505, R506, R510). -/
def Obligations.StepKeepsVtlbWriteXorExec : Prop :=
  ∀ s s' : State, s.vtlbWriteXorExec → step s = .next s' → s'.vtlbWriteXorExec

/-- Every step keeps ENABLER the shadow of ENABLEW, the reserved status bits 0, and the parameters as they are (10_state.md
R36, 40_registers.md R240, R241, 30_encoding.md R175, 00_scope.md R9). -/
def Obligations.StepKeepsEnablerReservedBitsAndParameters : Prop :=
  ∀ s s' : State, step s = .next s' →
    s'.params = s.params ∧ (s.enablerMirrors → s'.enablerMirrors) ∧ (s.statReservedClear → s'.statReservedClear)

/-! ### Rules of the whole machine -/

/-- Each status bit is set only by its cause (60_exceptions.md R601): CIS[c] by the completion event of channel c, or by
the external pump of a channel 0..2; SIS by SIF1's fetch of a REFS tag whose link would read past STADR (41_tag_walker.md
R295); MEIS by the external drain; BEIS by a step of a channel in scope whose tag address, or whose address at a quadword of a
transfer, resolves to nothing (41_tag_walker.md R286). -/
def Obligations.StatusBitCauses : Prop :=
  ∀ (s s' : State) (b : Nat), step s = .next s' → b < 16 → s.g.stat.getLsbD b = false → s'.g.stat.getLsbD b = true →
    (∃ c : Ch, b = c.num ∧ (s.head = .fire c ∨ (c.inScope = false ∧ s.head = .extPump c .setCis)))
      ∨ (b = 13 ∧ ∃ n l t, s.head = .engine .sif1 n ∧ runnable s.g ∧ (s.eng.get .sif1).phase = .tagFetch
          ∧ (s.eng.get .sif1).mode = .srcChain ∧ s.dmaAddr (s.chan.get .sif1).tadr false = some l
          ∧ decode (.srcTag .sif1) ((s.mem.get l.region).readBytes l.off 16) = .ok (.srcRefs .sif1 t) ∧ stalls .sif1 t s)
      ∨ (b = 14 ∧ s.head = .mfifoEmpty)
      ∨ (b = 15 ∧ ∃ c n, s.head = .engine c n ∧ c.inScope = true ∧ runnable s.g
          ∧ (((s.eng.get c).phase = .tagFetch ∧ (s.eng.get c).mode = .srcChain
                ∧ s.dmaAddr (s.chan.get c).tadr false = none)
              ∨ ((s.eng.get c).phase = .transfer ∧ ∃ k s1, k < (s.eng.get c).rem ∧ s.moveN c k = (s1, true)
                ∧ s1.dmaAddr (s1.memAddr c) (writesMemory s1 c) = none)))

/-- CIS[c] of a channel in scope is set only by the step that ends its run: a completion was pending, the engine had moved
everything and was completing, the DMAC was runnable; afterwards the channel is free, and no byte of memory changes in that
step or can change by that run after it (20_memory.md R123, 60_exceptions.md R606). -/
def Obligations.CompletionBitMeansTheRunEnded : Prop :=
  ∀ (s s' : State) (c : Ch), c.inScope = true → step s = .next s' → s.g.stat.getLsbD c.num = false →
    s'.g.stat.getLsbD c.num = true →
      s.ev.get c ≠ none ∧ (s.eng.get c).phase = .completing ∧ runnable s.g
        ∧ s'.ev.get c = none ∧ (s'.eng.get c).phase = .idle ∧ ¬ busy s' c ∧ SameBytes s s'

/-- A status bit that is set stays set until the host writes 1 to it in STAT, or reset clears it (60_exceptions.md R604). -/
def Obligations.StatusBitsAreSticky : Prop :=
  ∀ (s s' : State) (b : Nat), step s = .next s' → b < 16 → s.g.stat.getLsbD b = true → s'.g.stat.getLsbD b = false →
    WritesOneToStat s b ∨ s.head = .reset

/-- While a channel in scope is busy, only its own engine (or reset) changes its MADR, QWC, TADR, ASR0, ASR1 and SADR
(40_registers.md R203, R210, R211, 70_reset_and_hazards.md R710, 10_state.md R23). -/
def Obligations.BusyRegistersBelongToTheEngine : Prop :=
  ∀ (s s' : State) (c : Ch), c.inScope = true → busy s c → step s = .next s' → (∀ n, s.head ≠ .engine c n) →
    s.head ≠ .reset → s'.chan.get c = { s.chan.get c with chcr := (s'.chan.get c).chcr }

/-- An engine's step changes no other channel's registers, engine, queued bit or event, no other SIF channel's FIFO, no IOP
half, no generic cell and nothing of the VTLB (20_memory.md R120, 10_state.md R53, 44_vtlb.md R520). The external pump of a
channel changes that channel's registers, its phase and CIS[c], and nothing else of the block (00_scope.md R11). -/
def Obligations.EngineStepTouchesOnlyItsChannel : Prop :=
  (∀ (s s' : State) (c : Ch) (n : Nat), s.head = .engine c n → step s = .next s' →
    (∀ k, k ≠ c → s'.chan.get k = s.chan.get k ∧ s'.eng.get k = s.eng.get k ∧ s'.ev.get k = s.ev.get k
      ∧ s'.isQueued k = s.isQueued k)
    ∧ (∀ f : Sif, s'.sif.get f = { s.sif.get f with fifo := (s'.sif.get f).fifo })
    ∧ (∀ f : Sif, f.toCh ≠ c → (s'.sif.get f).fifo = (s.sif.get f).fifo)
    ∧ s'.gen = s.gen ∧ s'.vtlb = s.vtlb)
  ∧ (∀ (s s' : State) (c : Ch) (op : ExtOp), s.head = .extPump c op → step s = .next s' →
    s' = { s with chan := s'.chan, eng := s'.eng, g := { s.g with stat := s'.g.stat }, env := s'.env }
    ∧ (∀ k, k ≠ c → s'.chan.get k = s.chan.get k ∧ s'.eng.get k = s.eng.get k)
    ∧ s'.eng.get c = { s.eng.get c with phase := (s'.eng.get c).phase }
    ∧ (∀ b, b ≠ c.num → s'.g.stat.getLsbD b = s.g.stat.getLsbD b)
    ∧ (c.inScope = true → s'.chan = s.chan ∧ s'.eng = s.eng ∧ s'.g = s.g))

/-- Only the two halves of its channel change a SIF FIFO, and only the IPU and its channel an IPU FIFO; reset empties them
(43_fifo_sif.md R404). -/
def Obligations.FifosHaveOneOwner : Prop :=
  ∀ s s' : State, step s = .next s' →
    (∀ f : Sif, (s'.sif.get f).fifo ≠ (s.sif.get f).fifo →
      (∃ n, s.head = .engine f.toCh n) ∨ (∃ n, s.head = .iopHalf f n) ∨ s.head = .reset)
    ∧ (s'.ipu.inFifo ≠ s.ipu.inFifo → (∃ n, s.head = .engine .ipu1 n) ∨ s.head = .ipuPop ∨ s.head = .reset)
    ∧ (s'.ipu.outFifo ≠ s.ipu.outFifo →
      (∃ n, s.head = .engine .ipu0 n) ∨ (∃ q, s.head = .ipuPush q) ∨ s.head = .reset)
    ∧ (s.head = .reset → (∀ f : Sif, (s'.sif.get f).fifo = []) ∧ s'.ipu.inFifo = [] ∧ s'.ipu.outFifo = [])

/-- After initialisation only the page map of the VTLB changes until reset, not the dispatchers and not the code page's
permission; and only the MMU model writes the page map, whose write of a page leaves that page with its entry and every other
page as it was (44_vtlb.md R486, R511). -/
def Obligations.VtlbIsImmutableAfterInit : Prop :=
  (∀ s s' : State, step s = .next s' → s.head ≠ .reset →
    (s.vtlb.init = true → s'.vtlb = { s.vtlb with vmap := s'.vtlb.vmap })
    ∧ (s'.vtlb.vmap ≠ s.vtlb.vmap → ∃ p e, s.head = .mmuMap p e))
  ∧ ∀ (s : State) (rest : List Action) (p : Nat) (e : VtlbEntry), s.running →
    p < 2 ^ (s.params.vaddrBits - s.params.vtlbPageBits) →
      ∃ s' : State, step (withAgenda s (.mmuMap p e :: rest)) = .next s'
        ∧ s' = { withAgenda s rest with vtlb := { s.vtlb with vmap := s'.vtlb.vmap } }
        ∧ ∀ q, s'.vtlbEntry q = if q = p then e else s.vtlbEntry q

/-- While the DMAC is not runnable, no engine step and no completion event of a channel in scope is taken
(42_channel_engines.md R326, 60_exceptions.md R610). -/
def Obligations.EnginesHoldWhileNotRunnable : Prop :=
  ∀ (s : State) (rest : List Action) (c : Ch) (n : Nat), s.running → c.inScope = true → ¬ runnable s.g →
    step (withAgenda s (.engine c n :: rest)) = .next (withAgenda s rest)
      ∧ step (withAgenda s (.fire c :: rest)) = .next (withAgenda s rest)

/-- An IOP half does the same whatever the EE DMAC's registers, STR, engines, queued starts and events are; of them SIF2's IOP
half follows only CHCR.DIR of its channel (43_fifo_sif.md R412, R440). -/
def Obligations.IopHalvesIgnoreTheEeDmac : Prop :=
  ∀ (s : State) (rest : List Action) (f : Sif) (n : Nat) (g : Globals) (ch : PerChan Chan) (e : PerChan Engine)
    (ev : PerChan (Option Nat)) (q : BitVec 10), s.running →
    (f = .sif2 → (ch.get .sif2).chcr.getLsbD 0 = (s.chan.get .sif2).chcr.getLsbD 0) →
    ∃ t : State, step (withAgenda s (.iopHalf f n :: rest)) = .next t
      ∧ step { withAgenda s (.iopHalf f n :: rest) with g := g, chan := ch, eng := e, ev := ev, queued := q } =
        .next { t with g := g, chan := ch, eng := e, ev := ev, queued := q }

/-! ### Frames -/

/-- An instruction that is no VTLB store and no source tag of SPR1 with TTE = 1 leaves every byte of every memory
(20_memory.md R114). -/
def Obligations.OnlyStoresAndTagTransfersWriteMemory : Prop :=
  ∀ (i : Instr) (s s' : State), exec i s = .next s' → ¬ isStore i →
    (i.port = .srcTag .spr1 → (s.chan.get .spr1).chcr.getLsbD 6 = false) → SameBytes s s'

/-- What a register write leaves unchanged. A write to a channel leaves the other channels, the global registers and the
generic cells; a write to a global register leaves the channel registers, the events, the generic cells, the other global
registers (ENABLER follows ENABLEW) and every engine that was not queued; a write to a generic cell leaves everything else.
None of them touches a FIFO, an IOP half, a byte of memory, the VTLB, the parameters or the model's own fields
(40_registers.md R200 to R245). -/
def Obligations.RegisterWriteFrame : Prop :=
  (∀ (c : Ch) (r : ChanReg) (v : Word) (s s' : State), exec (.swChan c r v) s = .next s' →
    (∀ k, k ≠ c → s'.chan.get k = s.chan.get k ∧ s'.eng.get k = s.eng.get k ∧ s'.ev.get k = s.ev.get k
      ∧ s'.isQueued k = s.isQueued k)
    ∧ s'.g = s.g ∧ s'.gen = s.gen ∧ s'.sif = s.sif ∧ s'.ipu = s.ipu ∧ SameBytes s s' ∧ s'.vtlb = s.vtlb
    ∧ s'.params = s.params ∧ s'.env = s.env)
  ∧ (∀ (g : GlobalReg) (v : Word) (s s' : State), exec (.swGlobal g v) s = .next s' →
    s'.chan = s.chan ∧ s'.ev = s.ev ∧ s'.gen = s.gen
    ∧ (∀ r, r ≠ g → ¬ (g = .enablew ∧ r = .enabler) → shownGlobal s'.g r = shownGlobal s.g r)
    ∧ (∀ c, s.isQueued c = false → s'.eng.get c = s.eng.get c ∧ s'.isQueued c = false)
    ∧ s'.sif = s.sif ∧ s'.ipu = s.ipu ∧ SameBytes s s' ∧ s'.vtlb = s.vtlb ∧ s'.params = s.params ∧ s'.env = s.env)
  ∧ (∀ (a v : Word) (s s' : State), isGeneric a = true → exec (.swGen a v) s = .next s' →
    s' = { s with gen := s'.gen } ∧ (∀ b, b ≠ a → s'.genRead b = s.genRead b) ∧ SameBytes s s')

/-- What a source tag leaves unchanged: every register outside its channel (a stalled REFS sets SIS), its SADR unless SPR1
transfers the tag, the IOP halves, the FIFOs unless SIF1 transfers the tag, every byte of memory outside the quadword at
SADR, and there only if SPR1 transfers the tag (41_tag_walker.md R261, R282, R286). -/
def Obligations.SourceTagFrame : Prop :=
  ∀ (c : SrcCh) (t : Tag) (i : Instr) (s s' : State), i ∈ srcTags c t → exec i s = .next s' →
    let tte := (s.chan.get c.toCh).chcr.getLsbD 6
    (∀ k, k ≠ c.toCh → s'.chan.get k = s.chan.get k ∧ s'.eng.get k = s.eng.get k)
    ∧ (¬ (c = .spr1 ∧ tte = true) → (s'.chan.get c.toCh).sadr = (s.chan.get c.toCh).sadr ∧ SameBytes s s')
    ∧ SameBytesOutside s s' .spr ((s.chan.get c.toCh).sadr &&& 0x3FF0).toNat 16
    ∧ (∀ f : Sif, s'.sif.get f = { s.sif.get f with fifo := (s'.sif.get f).fifo })
    ∧ (∀ f : Sif, ¬ (c = .sif1 ∧ tte = true ∧ f = .sif1) → (s'.sif.get f).fifo = (s.sif.get f).fifo)
    ∧ s'.g = { s.g with stat := s'.g.stat }
    ∧ (¬ (i = .srcRefs c t ∧ stalls c t s) → s'.g.stat = s.g.stat)
    ∧ s'.gen = s.gen ∧ s'.queued = s.queued ∧ s'.ev = s.ev ∧ s'.ipu = s.ipu ∧ s'.vtlb = s.vtlb
    ∧ s'.params = s.params ∧ (¬ (c = .sif1 ∧ tte = true) → s'.faults = s.faults)
    ∧ s'.env = { s.env with draws := s'.env.draws }

/-! ### Channel registers: SW and LW of the ten channels -/

/-- A write of MADR, QWC, TADR, ASR0, ASR1 or SADR, of every channel, is dropped while the channel is busy and stored
otherwise, QWC as its low 16 bits; nothing else changes (40_registers.md R203). It covers the 60 SW rows of these
registers. -/
def Obligations.ChannelRegisterWrite : Prop :=
  ∀ (c : Ch) (r : ChanReg) (v : Word) (s : State), r ≠ .chcr →
    (busy s c → exec (.swChan c r v) s = .next s)
    ∧ (¬ busy s c → exec (.swChan c r v) s = .next { s with chan := s.chan.set c (stored (s.chan.get c) r v) })

/-- A CHCR write to a busy channel: with STR = 1 it changes nothing; with STR = 0 it commits the value, cancels the pending
event and the queued start and makes the engine Idle, and nothing else changes (40_registers.md R210, R211). It covers the
ten SW CHCR rows on a busy channel. -/
def Obligations.ChcrWriteToBusyChannel : Prop :=
  ∀ (c : Ch) (v : Word) (s : State), busy s c →
    (v.getLsbD 8 = true → exec (.swChan c .chcr v) s = .next s)
    ∧ (v.getLsbD 8 = false →
        exec (.swChan c .chcr v) s =
          .next { s with
            chan := s.chan.set c { s.chan.get c with chcr := v }
            ev := s.ev.set c none
            queued := s.queued &&& ~~~((1 : BitVec 10) <<< c.num)
            eng := s.eng.set c { s.eng.get c with phase := .idle, last := false, rem := 0, blk := 0 } })

/-- A CHCR write to an idle channel. With STR = 0 it commits the value. With STR = 1 it coerces MOD = 3 under the quirk, and
then a DMAC that is not runnable queues the start, and a runnable one starts the channel: the external pump for channels 0..2,
else the engine in the mode of MOD, with the QWC = 0 quirk and the finish of a pending link (40_registers.md R212, R214, R215,
R216, 42_channel_engines.md R320, R321, 41_tag_walker.md R285, R290). A start that is a model fault has its own statement, the
next one. It covers the ten SW CHCR rows on an idle channel. -/
def Obligations.ChcrWriteToIdleChannel : Prop :=
  ∀ (c : Ch) (v : Word) (s : State), ¬ busy s c →
    let w := committed s.params v
    (v.getLsbD 8 = false →
      exec (.swChan c .chcr v) s = .next { s with chan := s.chan.set c { s.chan.get c with chcr := v } })
    ∧ (v.getLsbD 8 = true → ¬ runnable s.g →
        exec (.swChan c .chcr v) s =
          .next { s with
            chan := s.chan.set c { s.chan.get c with chcr := w }
            queued := s.queued ||| ((1 : BitVec 10) <<< c.num)
            eng := s.eng.set c { s.eng.get c with phase := .queued } })
    ∧ (v.getLsbD 8 = true → runnable s.g → ¬ unsupported s.params c (w.extractLsb' 2 2) →
        exec (.swChan c .chcr v) s =
          .next { s with
            chan := s.chan.set c { s.chan.get c with chcr := w }
            eng := s.eng.set c
              (if c.inScope = true then started s.params c w (s.chan.get c).qwc (s.eng.get c)
               else { s.eng.get c with phase := .external }) })

/-- A start in a mode the channel does not support records the model fault with CHCR committed and no engine started, and
from a state with a fault record no step goes on (40_registers.md R214, 42_channel_engines.md R322). That a start with MOD = 3
and the quirk off is such a start on channels 0..2 too is the model's choice (log 29). -/
def Obligations.UnsupportedModeStopsTheMachine : Prop :=
  (∀ (c : Ch) (v : Word) (s : State), ¬ busy s c → v.getLsbD 8 = true → runnable s.g →
    unsupported s.params c ((committed s.params v).extractLsb' 2 2) →
      ∃ s' : State, exec (.swChan c .chcr v) s = .next s'
        ∧ s' = { s with
            chan := s.chan.set c { s.chan.get c with chcr := committed s.params v }, faults := s'.faults }
        ∧ busy s' c
        ∧ ∀ r, r ∈ s'.faults ↔ r ∈ s.faults ∨ r = .unsupportedMode c ((committed s.params v).extractLsb' 2 2))
  ∧ (∀ (s : State) (r : FaultRecord) (rs : List FaultRecord), s.faults = r :: rs → step s = .fault (.stopped r))

/-- A read of a channel register, a global register or a generic cell returns its value and changes nothing else; QWC reads
with bits 31:16 zero (40_registers.md R201). It covers the 80 LW rows. -/
def Obligations.RegisterReads : Prop :=
  ∀ s : State,
    (∀ (c : Ch) (r : ChanReg), exec (.lwChan c r) s = .next (returned s (.word (shown (s.chan.get c) r))))
    ∧ (∀ r : GlobalReg, exec (.lwGlobal r) s = .next (returned s (.word (shownGlobal s.g r))))
    ∧ (∀ a : Word, isGeneric a = true → exec (.lwGen a) s = .next (returned s (.word (s.genRead a))))

/-! ### Global registers -/

/-- The interrupt line (60_exceptions.md R605): some CIS[c] with its mask CIM[c], SIS with SIM, MEIS with MEIM, or BEIS, which
has no mask. -/
def Obligations.InterruptLine : Prop :=
  ∀ stat : Word, dmacIntLine stat = true ↔
    (∃ c : Ch, stat.getLsbD c.num = true ∧ stat.getLsbD (16 + c.num) = true)
      ∨ (stat.getLsbD 13 = true ∧ stat.getLsbD 29 = true) ∨ (stat.getLsbD 14 = true ∧ stat.getLsbD 30 = true)
      ∨ stat.getLsbD 15 = true

/-- A write of PCR, SQWC, RBSR, RBOR or STADR only stores; ENABLER ignores its write; CTRL and ENABLEW (which ENABLER
mirrors) only store unless they re-enable the DMAC (40_registers.md R230, R236, R237, R240, R241). -/
def Obligations.GlobalRegisterWrites : Prop :=
  ∀ (v : Word) (s : State),
    exec (.swPcr v) s = .next { s with g := { s.g with pcr := v } }
    ∧ exec (.swSqwc v) s = .next { s with g := { s.g with sqwc := v } }
    ∧ exec (.swRbsr v) s = .next { s with g := { s.g with rbsr := v } }
    ∧ exec (.swRbor v) s = .next { s with g := { s.g with rbor := v } }
    ∧ exec (.swStadr v) s = .next { s with g := { s.g with stadr := v } }
    ∧ exec (.swEnabler v) s = .next s
    ∧ (¬ (s.g.ctrl.getLsbD 0 = false ∧ v.getLsbD 0 = true) →
        exec (.swCtrl v) s = .next { s with g := { s.g with ctrl := v } })
    ∧ (¬ (s.g.enablew.getLsbD 16 = true ∧ v.getLsbD 16 = false) →
        exec (.swEnablew v) s = .next { s with g := { s.g with enablew := v, enabler := v } })

/-- A write of STAT clears the status bits written as 1 and toggles the mask bits written as 1, bit by bit, and changes
nothing else (40_registers.md R232). -/
def Obligations.StatWrite : Prop :=
  ∀ (v : Word) (s : State), ∃ x : Word,
    exec (.swStat v) s = .next { s with g := { s.g with stat := x } }
    ∧ ∀ b, b < 32 → x.getLsbD b =
        if b < 16 then s.g.stat.getLsbD b && !v.getLsbD b else Bool.xor (s.g.stat.getLsbD b) (v.getLsbD b)

/-- A write of CTRL with DMAE from 0 to 1, and a write of ENABLEW with bit 16 from 1 to 0, store and then start exactly the
queued channels, if the DMAC is then runnable (40_registers.md R230, R240, R245). The records added are those of the started
channels whose mode is not supported; that the drain then goes on with the other channels is the model's reading (log 6), and
that MOD = 3 with the quirk off faults on channels 0..2 too is the model's choice (log 29). -/
def Obligations.ReenableDrainsTheQueue : Prop :=
  (∀ (v : Word) (s : State), s.g.ctrl.getLsbD 0 = false → v.getLsbD 0 = true →
    ∃ s' : State, exec (.swCtrl v) s = .next s'
      ∧ s' = { s with g := { s.g with ctrl := v }, eng := s'.eng, queued := s'.queued, faults := s'.faults }
      ∧ Drained (s.g.enabler.getLsbD 16 = false) s s')
  ∧ (∀ (v : Word) (s : State), s.g.enablew.getLsbD 16 = true → v.getLsbD 16 = false →
    ∃ s' : State, exec (.swEnablew v) s = .next s'
      ∧ s' = { s with g := { s.g with enablew := v, enabler := v }, eng := s'.eng, queued := s'.queued,
                      faults := s'.faults }
      ∧ Drained (s.g.ctrl.getLsbD 0 = true) s s')

/-- A write of a generic cell stores, a later read returns the value, and every other cell reads as before (40_registers.md
R204). -/
def Obligations.GenericCellWrite : Prop :=
  ∀ (a v : Word) (s : State), isGeneric a = true →
    ∃ s' : State, exec (.swGen a v) s = .next s' ∧ s' = { s with gen := s'.gen }
      ∧ (∀ b, s'.genRead b = if b = a then v else s.genRead b)
      ∧ exec (.lwGen a) s' = .next (returned s' (.word v))

/-! ### Source-chain tags -/

/-- REFE, CNT, NEXT, REF and END, on every channel that reads source tags: the registers and the engine after the tag,
with T the tag's address (41_tag_walker.md R261 to R265, R272). -/
def Obligations.PlainSourceTags : Prop :=
  ∀ (c : SrcCh) (t : Tag) (s : State),
    let T := (s.chan.get c.toCh).tadr
    (∃ s', exec (.srcRefe c t) s = .next s' ∧ AfterPlainTag c 0 t s s' t.a (T + 16) true)
    ∧ (∃ s', exec (.srcCnt c t) s = .next s' ∧ AfterPlainTag c 1 t s s' (T + 16) (afterLink T t) false)
    ∧ (∃ s', exec (.srcNext c t) s = .next s' ∧ AfterPlainTag c 2 t s s' (T + 16) t.a false)
    ∧ (∃ s', exec (.srcRef c t) s = .next s' ∧ AfterPlainTag c 3 t s s' t.a (T + 16) false)
    ∧ (∃ s', exec (.srcEnd c t) s = .next s' ∧ AfterPlainTag c 7 t s s' (T + 16) T true)

/-- REFS: where its link would read past STADR on the stall drain, SIS is set, the engine stalls and nothing else changes;
everywhere else it is REF (41_tag_walker.md R266, R295). A stalled engine of a runnable DMAC goes back to the tag fetch, and
nothing else changes (R295). -/
def Obligations.RefsStallsOrRefers : Prop :=
  (∀ (c : SrcCh) (t : Tag) (s : State),
    (stalls c t s →
      exec (.srcRefs c t) s =
        .next { s with
          g := { s.g with stat := s.g.stat ||| 0x00002000 }
          eng := s.eng.set c.toCh { s.eng.get c.toCh with phase := .stalled } })
    ∧ (¬ stalls c t s →
        ∃ s', exec (.srcRefs c t) s = .next s'
          ∧ AfterPlainTag c 4 t s s' t.a ((s.chan.get c.toCh).tadr + 16) false))
  ∧ ∀ (s : State) (rest : List Action) (c : Ch) (n : Nat), s.running → runnable s.g → (s.eng.get c).phase = .stalled →
      step (withAgenda s (.engine c n :: rest)) =
        .next { withAgenda s rest with eng := s.eng.set c { s.eng.get c with phase := .tagFetch } }

/-- CALL pushes the address after its link's data and continues at A; with a full stack (ASP 2 or 3) the link is the last
and TADR, ASR0, ASR1 and ASP keep their values (41_tag_walker.md R270). -/
def Obligations.CallPushes : Prop :=
  ∀ (c : SrcCh) (t : Tag) (s : State),
    let d := s.chan.get c.toCh
    ∃ s', exec (.srcCall c t) s = .next s' ∧
      (d.chcr.extractLsb' 4 2 = 0 →
        AfterSrcTag c 5 t s s' (d.tadr + 16) t.a (afterLink d.tadr t) d.asr1 1 false)
      ∧ (d.chcr.extractLsb' 4 2 = 1 →
        AfterSrcTag c 5 t s s' (d.tadr + 16) t.a d.asr0 (afterLink d.tadr t) 2 false)
      ∧ (d.chcr.extractLsb' 4 2 = 2 ∨ d.chcr.extractLsb' 4 2 = 3 →
        AfterSrcTag c 5 t s s' (d.tadr + 16) d.tadr d.asr0 d.asr1 (d.chcr.extractLsb' 4 2) true)

/-- RET continues at the popped address; the popped register then holds some value, which is not stated; with an empty
stack (ASP 0, or 3) the link is the last and nothing is popped (41_tag_walker.md R271). -/
def Obligations.RetPops : Prop :=
  ∀ (c : SrcCh) (t : Tag) (s : State),
    let d := s.chan.get c.toCh
    ∃ s', exec (.srcRet c t) s = .next s' ∧
      (d.chcr.extractLsb' 4 2 = 2 →
        AfterSrcTag c 6 t s s' (d.tadr + 16) d.asr1 d.asr0 (s'.chan.get c.toCh).asr1 1 false)
      ∧ (d.chcr.extractLsb' 4 2 = 1 →
        AfterSrcTag c 6 t s s' (d.tadr + 16) d.asr0 (s'.chan.get c.toCh).asr0 d.asr1 0 false)
      ∧ (d.chcr.extractLsb' 4 2 = 0 ∨ d.chcr.extractLsb' 4 2 = 3 →
        AfterSrcTag c 6 t s s' (d.tadr + 16) d.tadr d.asr0 d.asr1 (d.chcr.extractLsb' 4 2) true)

/-- With TTE = 1, SPR1 writes the whole tag quadword to scratchpad at SADR and advances SADR, and SIF1 pushes words 2 and 3
of it into its FIFO when there is room; with TTE = 0 nothing is sent (41_tag_walker.md R282, 42_channel_engines.md R366,
43_fifo_sif.md R438). A stalled REFS sends nothing: the hypothesis of SIF1 excludes it. That the advanced SADR has its bits
3:0 clear, where 20_memory.md R104 keeps them, is the model's choice (log 30). -/
def Obligations.TagTransfer : Prop :=
  (∀ (t : Tag) (i : Instr) (s s' : State), i ∈ srcTags .spr1 t → (s.chan.get .spr1).chcr.getLsbD 6 = true →
    exec i s = .next s' →
      (∀ j, j < 16 → s'.readByte .spr (((s.chan.get .spr1).sadr &&& 0x3FF0).toNat + j) = (encode i).getD j 0)
      ∧ (s'.chan.get .spr1).sadr = ((s.chan.get .spr1).sadr + 16) &&& 0x3FF0)
  ∧ (∀ (t : Tag) (i : Instr) (s s' : State), i ∈ srcTags .sif1 t → exec i s = .next s' →
    ¬ (i = .srcRefs .sif1 t ∧ stalls .sif1 t s) →
      ((s.chan.get .sif1).chcr.getLsbD 6 = true → 2 ≤ s.sifFree .sif1 →
        (s'.sif.get .sif1).fifo = (s.sif.get .sif1).fifo ++ [t.hi.extractLsb' 0 32, t.hi.extractLsb' 32 32]
        ∧ s'.faults = s.faults)
      ∧ ((s.chan.get .sif1).chcr.getLsbD 6 = false → (s'.sif.get .sif1).fifo = (s.sif.get .sif1).fifo))

/-! ### Destination-chain tags and IOP tags -/

/-- The eight destination tags: CNTS marks the link, END ends the chain, every other ID is CNT; nothing outside the
channel's CHCR, QWC, MADR and engine changes (41_tag_walker.md R280, R281, R298, R300 to R303). -/
def Obligations.DestinationTags : Prop :=
  ∀ (c : DstCh) (t : Tag) (s : State),
    exec (.dstCnts c t) s = .next (afterDstTag c 0 t false s)
    ∧ exec (.dstCnt c t) s = .next (afterDstTag c 1 t false s)
    ∧ exec (.dstRsv2 c t) s = .next (afterDstTag c 2 t false s)
    ∧ exec (.dstRsv3 c t) s = .next (afterDstTag c 3 t false s)
    ∧ exec (.dstRsv4 c t) s = .next (afterDstTag c 4 t false s)
    ∧ exec (.dstRsv5 c t) s = .next (afterDstTag c 5 t false s)
    ∧ exec (.dstRsv6 c t) s = .next (afterDstTag c 6 t false s)
    ∧ exec (.dstEnd c t) s = .next (afterDstTag c 7 t true s)

/-- The two IOP tags. SIF0's forwards the EE tag and two pad words (some values, not stated) and advances IopTadr; SIF1's is
taken off the FIFO; each loads the link. Only that SIF channel and, for SIF0, the count of draws change, and the cycles, which
are timing-only (43_fifo_sif.md R427, R434). -/
def Obligations.IopTags : Prop :=
  ∀ (t : IopTag) (s : State),
    let link (x : SifChan) (cycles : Nat) : IopHalf :=
      { busy := x.iop.busy, counter := t.words.toNat, writeJunk := padWords t.words.toNat
        last := t.iirq == 1 || t.ert == 1, cycles := cycles }
    (4 ≤ s.sifFree .sif0 →
      let x := s.sif.get .sif0
      ∃ (p0 p1 : Word) (cycles draws : Nat),
        exec (.iopTagSif0 t) s =
          .next { withSif s .sif0
              { fifo := x.fifo ++ [t.u2, t.u3, p0, p1], iopTadr := x.iopTadr + 16, iopMadr := (0 : BitVec 8) ++ t.iaddr
                iopEv := x.iopEv, iop := link x cycles }
            with env := { s.env with draws := draws } })
    ∧ (4 ≤ s.sifSize .sif1 →
      let x := s.sif.get .sif1
      ∃ cycles : Nat,
        exec (.iopTagSif1 t) s =
          .next (withSif s .sif1
            { fifo := x.fifo.drop 4, iopTadr := x.iopTadr, iopMadr := (0 : BitVec 8) ++ t.iaddr
              iopEv := x.iopEv, iop := link x cycles }))

/-! ### VTLB -/

/-- The eight loads on a Direct page: the little-endian value of the bytes, extended as the selector says; nothing else
changes (44_vtlb.md R480, R485, R491, R494). -/
def Obligations.LoadsReadMemory : Prop :=
  ∀ (s : State) (va : Word) (r : Region) (off : Nat), initialised s →
    (Maps s va r off 1 →
      exec (.load8u va) s = .next (returned s (.dword (BitVec.ofNat 64 (valueAt s r off 1))))
      ∧ exec (.load8s va) s = .next (returned s (.dword (signed64 8 (valueAt s r off 1)))))
    ∧ (va.toNat % 2 = 0 → Maps s va r off 2 →
      exec (.load16u va) s = .next (returned s (.dword (BitVec.ofNat 64 (valueAt s r off 2))))
      ∧ exec (.load16s va) s = .next (returned s (.dword (signed64 16 (valueAt s r off 2)))))
    ∧ (va.toNat % 4 = 0 → Maps s va r off 4 →
      exec (.load32u va) s = .next (returned s (.dword (BitVec.ofNat 64 (valueAt s r off 4))))
      ∧ exec (.load32s va) s = .next (returned s (.dword (signed64 32 (valueAt s r off 4)))))
    ∧ (va.toNat % 8 = 0 → Maps s va r off 8 →
      exec (.load64 va) s = .next (returned s (.dword (BitVec.ofNat 64 (valueAt s r off 8)))))
    ∧ (va.toNat % 16 = 0 → Maps s va r off 16 →
      exec (.load128 va) s = .next (returned s (.quad (BitVec.ofNat 128 (valueAt s r off 16)))))

/-- The five stores on a Direct page: the value's low bytes at the resolved address, least significant first; every other
byte and everything else is unchanged (44_vtlb.md R485, R492, R494). -/
def Obligations.StoresWriteMemory : Prop :=
  ∀ (s : State) (va : Word) (v : Quad) (r : Region) (off : Nat), initialised s →
    ∀ p ∈ ([(.store8 va v, 1), (.store16 va v, 2), (.store32 va v, 4), (.store64 va v, 8), (.store128 va v, 16)]
        : List (Instr × Nat)),
      va.toNat % p.2 = 0 → Maps s va r off p.2 →
        ∃ s' : State, exec p.1 s = .next s' ∧ s' = { s with mem := s'.mem } ∧ BytesAt s' r off p.2 v
          ∧ SameBytesOutside s s' r off p.2

/-- An access that ends at a handler. A 32-bit store through the DMAC handler is the register write, a 32-bit load the
register read; another width, or an address that is no register, is refused: it only sets the mark (44_vtlb.md R485, R491,
R492, 40_registers.md R200, R201, R202). Another handler is called with the physical address and, for a store, the value; a
load returns some value, extended as its selector says. A handler may do anything its owner defines (R491): that its call
leaves the block itself unchanged is the model's choice (log 12), the two ports that show the call are the model's own (log
13), and that an access with a byte past the end of its backing memory calls the default handler is the model's choice (R482,
R497; log 14). -/
def Obligations.HandlerAccesses : Prop :=
  ∀ (s : State) (va : Word) (v : Quad), initialised s →
    (∀ pb, s.vtlbEntry (page s va) = .handler .dmac pb →
      let pa := pb + BitVec.ofNat 32 (offset s va)
      (va.toNat % 4 = 0 →
        (∀ c r, decodeMmio pa = .chan c r →
          exec (.store32 va v) s = exec (.swChan c r (v.extractLsb' 0 32)) s
          ∧ exec (.load32u va) s = .next (returned s (.dword ((0 : Word) ++ shown (s.chan.get c) r)))
          ∧ exec (.load32s va) s = .next (returned s (.dword ((shown (s.chan.get c) r).signExtend 64))))
        ∧ (∀ g, decodeMmio pa = .global g →
          exec (.store32 va v) s = exec (.swGlobal g (v.extractLsb' 0 32)) s
          ∧ exec (.load32u va) s = .next (returned s (.dword ((0 : Word) ++ shownGlobal s.g g)))
          ∧ exec (.load32s va) s = .next (returned s (.dword ((shownGlobal s.g g).signExtend 64))))
        ∧ (∀ a, decodeMmio pa = .generic a →
          exec (.store32 va v) s = exec (.swGen a (v.extractLsb' 0 32)) s
          ∧ exec (.load32u va) s = .next (returned s (.dword ((0 : Word) ++ s.genRead a)))
          ∧ exec (.load32s va) s = .next (returned s (.dword ((s.genRead a).signExtend 64))))
        ∧ (decodeMmio pa = .unaligned ∨ decodeMmio pa = .outside →
          exec (.store32 va v) s = .next (refusing s (.unmodelledAccess pa .w32))
          ∧ exec (.load32u va) s = .next (refusing s (.unmodelledAccess pa .w32))
          ∧ exec (.load32s va) s = .next (refusing s (.unmodelledAccess pa .w32))))
      ∧ ∀ p ∈ accesses va v, p.2 ≠ .w32 → va.toNat % p.2.bytes = 0 →
        exec p.1 s = .next (refusing s (.unmodelledAccess pa p.2)))
    ∧ (∀ p ∈ stores va v, ∀ h pa, va.toNat % p.2.1.bytes = 0 → Calls s va p.2.1 h pa →
      exec p.1 s = .next { s with env := { s.env with out := some (.handlerWrite h p.2.1 pa p.2.2) } })
    ∧ ∀ (i : Nat) (h : HandlerId) (pa : Word), ∃ (q : Quad) (draws : Nat), ∀ p, (loads va q)[i]? = some p →
      va.toNat % p.2.1.bytes = 0 → Calls s va p.2.1 h pa →
        exec p.1 s =
          .next { s with env := { s.env with ret := p.2.2, draws := draws, out := some (.handlerRead h p.2.1 pa) } }

/-- The accesses the spec refuses: a refusal changes nothing but the mark, and from a state with the mark no step goes on
(60_exceptions.md R602; that the stop is a second step is log 7). They are a dispatcher access whose address is not a multiple
of its width, any dispatcher access before initialisation (44_vtlb.md R493, R507), and a host register access that is not
32-bit, not word-aligned or outside the register pages (40_registers.md R202). A generic-cell instruction on an address that is
no generic cell is refused too, which for the address of a named register is the model's choice (log 28). -/
def Obligations.RefusedAccesses : Prop :=
  (∀ (s : State) (va : Word) (v : Quad), ∀ p ∈ accesses va v,
    (initialised s → va.toNat % p.2.bytes ≠ 0 → exec p.1 s = .next (refusing s (.misalignedAccess va p.2)))
    ∧ (s.vtlb.init = false → exec p.1 s = .next (refusing s (.dispatchBeforeInit va p.2))))
  ∧ (∀ (s : State) (a v : Word), isGeneric a = false →
      exec (.swGen a v) s = .next (refusing s (.unmodelledAccess a .w32))
      ∧ exec (.lwGen a) s = .next (refusing s (.unmodelledAccess a .w32)))
  ∧ (∀ (s : State) (rest : List Action) (w : Width) (addr : Word) (v : Quad), s.running →
      (w ≠ .w32 ∨ decodeMmio addr = .unaligned ∨ decodeMmio addr = .outside) →
        step (withAgenda s (.hostWrite w addr v :: rest)) = .next (refusing (withAgenda s rest) (.unmodelledAccess addr w))
        ∧ step (withAgenda s (.hostRead w addr :: rest)) = .next (refusing (withAgenda s rest) (.unmodelledAccess addr w)))
  ∧ ∀ (s : State) (e : Refusal), s.faults = [] → s.refused = some e → step s = .refused e

/-- The generated dispatchers and the interpreted lookup agree: the host's access through `dispatch[sel]` and the same access
through `VtlbLookup` give the same outcome in every state after initialisation (44_vtlb.md R512). -/
def Obligations.DispatchersEqualTheInterpretedLookup : Prop :=
  ∀ (s : State) (rest : List Action) (store : Bool) (w : Width) (sign : Bool) (va : Word) (v : Quad), initialised s →
    selector store w sign ∈ validSelectors →
      step (withAgenda s (.dispatch (selector store w sign) va v :: rest)) =
        step (withAgenda s (.interpret store w sign va v :: rest))

/-- `vtlb_dynarec_init()`: the first call generates the 13 dispatchers, counts once and leaves the page executable and not
writable; a second call changes nothing (44_vtlb.md R505, R506). -/
def Obligations.VtlbInitIsIdempotent : Prop :=
  ∀ (s : State) (rest : List Action), s.running →
    ∃ t : State,
      step (withAgenda s (.vtlbInit :: rest)) = .next (withAgenda t rest)
      ∧ step (withAgenda t (.vtlbInit :: rest)) = .next (withAgenda t rest)
      ∧ t = { s with vtlb := t.vtlb } ∧ t.vtlb.vmap = s.vtlb.vmap ∧ t.vtlb.init = true
      ∧ (s.vtlb.init = true → t.vtlb = s.vtlb)
      ∧ (s.vtlb.init = false →
          t.vtlb.dispatch = validSelectors ∧ t.vtlb.codePerm = .rx ∧ t.vtlb.genCount = s.vtlb.genCount + 1)
      ∧ t.vtlb.genCount ≤ s.vtlb.genCount + 1

/-! ### Engines -/

/-- The completion event (60_exceptions.md R606): the slot empties, STR clears, the engine is Idle, CIS[c] is set, and
nothing else changes. -/
def Obligations.CompletionEvent : Prop :=
  ∀ (s : State) (rest : List Action) (c : Ch) (d : Nat), s.running → c.inScope = true → runnable s.g →
    s.ev.get c = some d → (s.eng.get c).phase = .completing →
      step (withAgenda s (.fire c :: rest)) =
        .next { withAgenda s rest with
          ev := s.ev.set c none
          chan := s.chan.set c { s.chan.get c with chcr := (s.chan.get c).chcr &&& ~~~0x00000100 }
          eng := s.eng.set c { s.eng.get c with phase := .idle, last := false, rem := 0, blk := 0 }
          g := { s.g with stat := s.g.stat ||| ((1 : Word) <<< c.num) } }

/-- The bus error (41_tag_walker.md R286), at a source tag fetch of IPU1, SPR1 or (with the FIFO room it waits for) SIF1 whose
TADR resolves to nothing, and at a quadword of a transfer step whose address resolves to nothing, or to a read-only region
where the channel writes memory (20_memory.md R101): the quadwords moved before it in the step are kept, BEIS is set, STR
clears, the engine is Idle, the event and the queued start are dropped, and nothing else changes. -/
def Obligations.BusErrorHaltsTheChannel : Prop :=
  ∀ (s : State) (rest : List Action) (c : Ch) (n : Nat), s.running → runnable s.g → c.inScope = true →
    ((s.eng.get c).phase = .tagFetch → (s.eng.get c).mode = .srcChain →
      c = .ipu1 ∨ c = .spr1 ∨ (c = .sif1 ∧ ((s.chan.get .sif1).chcr.getLsbD 6 = true → 2 ≤ s.sifFree .sif1)) →
      s.dmaAddr (s.chan.get c).tadr false = none →
        step (withAgenda s (.engine c n :: rest)) = .next (halted (withAgenda s rest) c))
    ∧ (∀ k s1, (s.eng.get c).phase = .transfer → 0 < (s.eng.get c).rem → k < n → n ≤ s.bound c →
      s.moveN c k = (s1, true) → s1.dmaAddr (s1.memAddr c) (writesMemory s1 c) = none →
        step (withAgenda s (.engine c n :: rest)) = .next (halted (withAgenda s1 rest) c))

/-- `MoveOne` of the channels that write memory (42_channel_engines.md R340, R358, 43_fifo_sif.md R421, R441): the quadword
comes off the IPU output FIFO, the SIF FIFO (first word lowest) or scratchpad at SADR, goes to the resolved address, and no
other byte changes; the address advances. That SPR0's advanced SADR has its bits 3:0 clear and its MADR in the MFIFO form those
of RBOR, where 20_memory.md R104 keeps the register's own, is the model's choice (log 30). -/
def Obligations.MovesIntoMemory : Prop :=
  ∀ (s : State) (l : Loc),
    (∀ q qs, s.dmaAddr (s.memAddr .ipu0) true = some l → s.ipu.outFifo = q :: qs →
      ∃ s', s.moveOne .ipu0 = some s' ∧ BytesAt s' l.region l.off 16 q ∧ SameBytesOutside s s' l.region l.off 16
        ∧ s' = { s with
            ipu := { s.ipu with outFifo := qs }, mem := s'.mem
            chan := s.chan.set .ipu0 { s.chan.get .ipu0 with madr := (s.chan.get .ipu0).madr + 16 } })
    ∧ (∀ f w0 w1 w2 w3 ws, f = .sif0 ∨ (f = .sif2 ∧ (s.chan.get .sif2).chcr.getLsbD 0 = false) →
      s.dmaAddr (s.memAddr f.toCh) true = some l → (s.sif.get f).fifo = w0 :: w1 :: w2 :: w3 :: ws →
      ∃ s', s.moveOne f.toCh = some s' ∧ BytesAt s' l.region l.off 16 (w3 ++ (w2 ++ (w1 ++ w0)))
        ∧ SameBytesOutside s s' l.region l.off 16
        ∧ s' = { s with
            sif := s.sif.set f { s.sif.get f with fifo := ws }, mem := s'.mem
            chan := s.chan.set f.toCh { s.chan.get f.toCh with madr := (s.chan.get f.toCh).madr + 16 } })
    ∧ (s.dmaAddr (s.memAddr .spr0) true = some l →
      ∃ s', s.moveOne .spr0 = some s'
        ∧ (∀ i, i < 16 → s'.readByte l.region (l.off + i) =
            s.readByte .spr (((s.chan.get .spr0).sadr &&& 0x3FF0).toNat + i))
        ∧ SameBytesOutside s s' l.region l.off 16
        ∧ s' = { s with
            mem := s'.mem
            chan := s.chan.set .spr0
              { s.chan.get .spr0 with
                sadr := ((s.chan.get .spr0).sadr + 16) &&& 0x3FF0
                madr := (s'.chan.get .spr0).madr } }
        ∧ (s.g.ctrl.getLsbD 3 = false → (s'.chan.get .spr0).madr = (s.chan.get .spr0).madr + 16)
        ∧ (s.g.ctrl.getLsbD 3 = true → (s'.chan.get .spr0).madr =
            (s.g.rbor &&& 0x7FFFFFFF) + (((s.chan.get .spr0).madr + 16) &&& s.g.rbsr &&& 0x7FFFFFF0)))

/-- `MoveOne` of the channels that read memory (42_channel_engines.md R345, R364, 43_fifo_sif.md R431, R441): the quadword at
the resolved address goes to the IPU input FIFO, to the SIF FIFO (lowest word first) or to scratchpad at SADR; no other byte
changes; the address advances. That SPR1's advanced SADR has its bits 3:0 clear, where 20_memory.md R104 keeps them, is the
model's choice (log 30). -/
def Obligations.MovesFromMemory : Prop :=
  ∀ (s : State) (l : Loc) (q : Quad), BytesAt s l.region l.off 16 q →
    (s.dmaAddr (s.memAddr .ipu1) false = some l → 0 < s.ipuInFree →
      s.moveOne .ipu1 = some { s with
        ipu := { s.ipu with inFifo := s.ipu.inFifo ++ [q] }
        chan := s.chan.set .ipu1 { s.chan.get .ipu1 with madr := (s.chan.get .ipu1).madr + 16 } })
    ∧ (∀ f, f = .sif1 ∨ (f = .sif2 ∧ (s.chan.get .sif2).chcr.getLsbD 0 = true) →
      s.dmaAddr (s.memAddr f.toCh) false = some l → 4 ≤ s.sifFree f →
      s.moveOne f.toCh = some { s with
        sif := s.sif.set f { s.sif.get f with
          fifo := (s.sif.get f).fifo
            ++ [q.extractLsb' 0 32, q.extractLsb' 32 32, q.extractLsb' 64 32, q.extractLsb' 96 32] }
        chan := s.chan.set f.toCh { s.chan.get f.toCh with madr := (s.chan.get f.toCh).madr + 16 } })
    ∧ (s.dmaAddr (s.memAddr .spr1) false = some l →
      ∃ s', s.moveOne .spr1 = some s'
        ∧ BytesAt s' .spr ((s.chan.get .spr1).sadr &&& 0x3FF0).toNat 16 q
        ∧ SameBytesOutside s s' .spr ((s.chan.get .spr1).sadr &&& 0x3FF0).toNat 16
        ∧ s' = { s with
            mem := s'.mem
            chan := s.chan.set .spr1
              { s.chan.get .spr1 with
                sadr := ((s.chan.get .spr1).sadr + 16) &&& 0x3FF0
                madr := (s.chan.get .spr1).madr + 16 } })

/-- The quadwords of a transfer step are moved one after the other, each by a `MoveOne` and its counts, up to a bus error
(42_channel_engines.md R325). Outside interleave mode, `n` of them advance MADR `n` times (by `16·n` without the MFIFO) and
count QWC (modulo 2^16) and `rem` down by `n` together, and leave TADR, ASR0, ASR1 and CHCR (10_state.md R25, R327). That MADR
in the MFIFO form has bits 3:0 of RBOR, where 20_memory.md R104 keeps its own, is the model's choice (log 30). -/
def Obligations.MadrAndQwcAdvanceTogether : Prop :=
  (∀ (s : State) (c : Ch) (n : Nat),
    s.moveN c 0 = (s, true)
    ∧ (∀ s1, s.moveOne c = some s1 → s.moveN c (n + 1) = (counted s1 c).moveN c n)
    ∧ (s.moveOne c = none → s.moveN c (n + 1) = (halted s c, false)))
  ∧ ∀ (s s' : State) (c : Ch) (n : Nat), (s.eng.get c).mode ≠ .interleave → s.moveN c n = (s', true) →
      (s'.chan.get c).madr = madrAfter s c n
      ∧ (¬ (c = .spr0 ∧ s.g.ctrl.getLsbD 3 = true) →
          (s'.chan.get c).madr = (s.chan.get c).madr + BitVec.ofNat 32 (16 * n))
      ∧ (s'.chan.get c).qwc = (s.chan.get c).qwc - BitVec.ofNat 16 n
      ∧ (s'.eng.get c).rem = (s.eng.get c).rem - n
      ∧ (s'.chan.get c).chcr = (s.chan.get c).chcr ∧ (s'.chan.get c).tadr = (s.chan.get c).tadr
      ∧ (s'.chan.get c).asr0 = (s.chan.get c).asr0 ∧ (s'.chan.get c).asr1 = (s.chan.get c).asr1

/-- The rest of an interleave block (42_channel_engines.md R331), from any block count below TQWC, or with TQWC 0 from any at
all: what is missing to TQWC, or the rest of the run where that is less or TQWC is 0, advances MADR by as much (SPR0 in the
MFIFO form when MFD says so) and then by the skip count, and the next block starts. SQWC is as it stands there and the block
may have begun under another, so a block ends by the current TQWC (R331, 40_registers.md R237) and a new skip count takes
effect at the next block boundary; that 70_reset_and_hazards.md R714 speaks of the skip count is the model's reading
(log 31). That MADR in the MFIFO form has bits 3:0 of RBOR, where 20_memory.md R104 keeps its own, is the model's choice
(log 30). -/
def Obligations.InterleaveBlockSkips : Prop :=
  ∀ (s s' : State) (c : Ch), c = .spr0 ∨ c = .spr1 → (s.eng.get c).mode = .interleave → 0 < (s.eng.get c).rem →
    let tq := (s.g.sqwc.extractLsb' 16 8).toNat
    tq = 0 ∨ (s.eng.get c).blk < tq →
    let k := if tq = 0 then (s.eng.get c).rem else min (tq - (s.eng.get c).blk) (s.eng.get c).rem
    s.moveN c k = (s', true) →
      (s'.chan.get c).madr = madrAfter s c k + 16 * (s.g.sqwc.extractLsb' 0 8).setWidth 32
      ∧ (¬ (c = .spr0 ∧ s.g.ctrl.getLsbD 3 = true) →
          (s'.chan.get c).madr = (s.chan.get c).madr + BitVec.ofNat 32 (16 * k)
            + 16 * (s.g.sqwc.extractLsb' 0 8).setWidth 32)
      ∧ (s'.eng.get c).blk = 0 ∧ (s'.eng.get c).rem = (s.eng.get c).rem - k
      ∧ (s'.chan.get c).qwc = (s.chan.get c).qwc - BitVec.ofNat 16 k

/-- The stall source (41_tag_walker.md R296): after a transfer step of `n` quadwords without a bus error, the last of the unit
or not, the selected source channel's STADR is its MADR[30:0] in a Normal run or a CNTS link, and is unchanged otherwise. -/
def Obligations.StallSourceUpdatesStadr : Prop :=
  ∀ (s s1 : State) (rest : List Action) (c : Ch) (n : Nat), c.inScope = true → s.running → runnable s.g →
    (s.eng.get c).phase = .transfer → 0 < (s.eng.get c).rem → 1 ≤ n → n ≤ s.bound c → s.moveN c n = (s1, true) →
      ∃ s', step (withAgenda s (.engine c n :: rest)) = .next s' ∧ s'.chan = s1.chan
        ∧ s'.g = { s.g with stadr := s'.g.stadr }
        ∧ (stallSource s c → s'.g.stadr = (s1.chan.get c).madr &&& 0x7FFFFFFF)
        ∧ (¬ stallSource s c → s'.g.stadr = s.g.stadr)

/-- The IPU channels park when they cannot move a quadword and wake when they can, and nothing else changes
(42_channel_engines.md R341, R346, R350). The EE half of a SIF channel whose FIFO lacks the words or the room for a quadword,
for SIF0's tag or for SIF1's tag transfer holds (43_fifo_sif.md R403, R420, R430). -/
def Obligations.EnginesParkWakeAndHold : Prop :=
  (∀ (s : State) (rest : List Action) (n : Nat), s.running → runnable s.g →
    (∀ f : Sif, (s.eng.get f.toCh).phase = .transfer → 0 < (s.eng.get f.toCh).rem → ¬ canMove s f.toCh →
      step (withAgenda s (.engine f.toCh n :: rest)) = .next (withAgenda s rest))
    ∧ ((s.eng.get .sif0).phase = .tagFetch → (s.eng.get .sif0).mode = .dstChain → (s.sif.get .sif0).fifo.length < 4 →
      step (withAgenda s (.engine .sif0 n :: rest)) = .next (withAgenda s rest))
    ∧ ((s.eng.get .sif1).phase = .tagFetch → (s.eng.get .sif1).mode = .srcChain →
      (s.chan.get .sif1).chcr.getLsbD 6 = true → s.sifFree .sif1 < 2 →
      step (withAgenda s (.engine .sif1 n :: rest)) = .next (withAgenda s rest)))
  ∧ ∀ (s : State) (rest : List Action) (c : Ch) (n : Nat) (ready : Prop), s.running → runnable s.g →
    ((c = .ipu0 ∧ (ready ↔ s.ipu.outFifo ≠ []))
      ∨ (c = .ipu1 ∧ (ready ↔ s.ipu.dataRequested = true ∧ 0 < s.ipuInFree))) →
    (s.eng.get c).mode ≠ .interleave →
      ((s.eng.get c).phase = .transfer → 0 < (s.eng.get c).rem → ¬ ready →
        step (withAgenda s (.engine c n :: rest)) =
          .next { withAgenda s rest with eng := s.eng.set c { s.eng.get c with phase := .parked } })
      ∧ ((s.eng.get c).phase = .parked → ready →
        step (withAgenda s (.engine c n :: rest)) =
          .next { withAgenda s rest with eng := s.eng.set c { s.eng.get c with phase := .transfer } })
      ∧ ((s.eng.get c).phase = .parked → ¬ ready →
        step (withAgenda s (.engine c n :: rest)) = .next (withAgenda s rest))

/-- A step in phase Transfer (42_channel_engines.md R325, R329, R370, 43_fifo_sif.md R414, R422, R432, R441). With nothing left
to move the unit ends. Otherwise a step of `n` quadwords without a bus error leaves what they moved, the cycles, which are
timing-only, and STADR, which is the stall source's; and if they were the last of the unit, it ends in that same step. The
third clause is a step of one quadword, in every mode: where the peripheral lets it move and its address resolves, the step
leaves what `MoveOne` leaves, with the counts. -/
def Obligations.EndOfUnit : Prop :=
  ∀ (s : State) (rest : List Action) (c : Ch) (n : Nat), s.running → runnable s.g → (s.eng.get c).phase = .transfer →
    ((s.eng.get c).rem = 0 → step (withAgenda s (.engine c n :: rest)) = .next (unitEnded (withAgenda s rest) c))
    ∧ (∀ s1, 0 < (s.eng.get c).rem → 1 ≤ n → n ≤ s.bound c → s.moveN c n = (s1, true) →
      ∃ stadr cycles,
        let t := { withAgenda s1 rest with
          g := { s1.g with stadr := stadr }, eng := s1.eng.set c { s1.eng.get c with cycles := cycles } }
        step (withAgenda s (.engine c n :: rest)) =
          .next (if (s1.eng.get c).rem = 0 then unitEnded t c else t))
    ∧ (∀ s1, 0 < (s.eng.get c).rem → canMove s c →
      ((s.eng.get c).mode = .interleave → s.g.sqwc.extractLsb' 16 8 = 0
        ∨ (s.eng.get c).blk < (s.g.sqwc.extractLsb' 16 8).toNat) → s.moveOne c = some s1 →
      ∃ stadr cycles,
        let s2 := counted s1 c
        let t := { withAgenda s2 rest with
          g := { s2.g with stadr := stadr }, eng := s2.eng.set c { s2.eng.get c with cycles := cycles } }
        step (withAgenda s (.engine c 1 :: rest)) =
          .next (if (s.eng.get c).rem = 1 then unitEnded t c else t))

/-- A pending event fires: in a fair run, the event slot of a channel in scope is empty again at some later point if the DMAC
stays runnable, and that of a channel 0..2 and of an IOP half in any case (00_scope.md R7, 42_channel_engines.md R390,
60_exceptions.md R606, R610, R612). The run's states meet the run invariant, which every step keeps. What a fair run is, and
that an IOP half's steps are among those it takes, is the model's reading (log 18). So is what the event of a channel 0..2
does: it completes a channel that is External, and of any other it only empties the slot (log 15). -/
def Obligations.FairRunsFirePendingEvents : Prop :=
  ∀ (a : Nat → Action) (s : Nat → State), FairRun a s →
    (∀ c n, c.inScope = true → (∀ m, n ≤ m → (s m).runInv ∧ runnable (s m).g) → (s n).ev.get c ≠ none →
      ∃ m, n ≤ m ∧ (s m).ev.get c = none)
    ∧ (∀ c n, c.inScope = false → (s n).ev.get c ≠ none → ∃ m, n ≤ m ∧ (s m).ev.get c = none)
    ∧ ∀ (f : Sif) n, ((s n).sif.get f).iopEv ≠ none → ∃ m, n ≤ m ∧ ((s m).sif.get f).iopEv = none

/-- The steps of an IOP half other than its tag: its start by the IOP DMAC, one data word pushed to the FIFO from IOP RAM at
IopMadr or popped from it into IOP RAM, the pad words of a link pushed (some values, not stated) or discarded, the end of the
run, with its event at least one cycle later, and the firing of that event, which is shown on a port that is the model's own
(log 13). A half whose FIFO lacks the words or the room for a word, for the pad or for its tag holds, and SIF2 has no tags.
Nothing else changes; cycles are timing-only (43_fifo_sif.md R403, R411, R415, R425, R426, R428, R435, R436, R437, R443,
60_exceptions.md R612; a step's number of words is drawn, and is taken as one here, log 3). -/
def Obligations.IopHalfSteps : Prop :=
  ∀ (s : State) (rest : List Action) (f : Sif) (n : Nat), s.running →
    let x := s.sif.get f
    let t := withAgenda s rest
    let pushes := f = .sif0 ∨ (f = .sif2 ∧ (s.chan.get .sif2).chcr.getLsbD 0 = false)
    (∀ madr tadr words, x.iop.busy = false →
      step (withAgenda s (.iopStart f madr tadr words :: rest)) =
        .next (withSif t f (match f with
          | .sif0 => { x with
              iopTadr := tadr, iop := { busy := true, last := false, counter := 0, writeJunk := 0, cycles := 0 } }
          | .sif1 => { x with iop := { busy := true, last := false, counter := 0, writeJunk := 0, cycles := 0 } }
          | .sif2 => { x with
              iopMadr := madr
              iop := { busy := true, last := true, counter := words, writeJunk := padWords words, cycles := 0 } })))
    ∧ (∀ madr tadr words, x.iop.busy = true → step (withAgenda s (.iopStart f madr tadr words :: rest)) = .next t)
    ∧ (x.iop.busy = false → step (withAgenda s (.iopHalf f n :: rest)) = .next t)
    ∧ ((0 < x.iop.counter ∧ pushes ∧ s.sifFree f = 0) ∨ (0 < x.iop.counter ∧ ¬ pushes ∧ x.fifo = [])
        ∨ (x.iop.counter = 0 ∧ pushes ∧ s.sifFree f < x.iop.writeJunk)
        ∨ (x.iop.counter = 0 ∧ ¬ pushes ∧ x.fifo.length < x.iop.writeJunk)
        ∨ (x.iop.counter = 0 ∧ x.iop.writeJunk = 0 ∧ x.iop.last = false
          ∧ (f = .sif2 ∨ (f = .sif0 ∧ s.sifFree f < 4) ∨ (f = .sif1 ∧ x.fifo.length < 4))) →
      step (withAgenda s (.iopHalf f n :: rest)) = .next t)
    ∧ (x.iop.busy = true → pushes → 0 < x.iop.counter → 0 < s.sifFree f →
      ∃ cycles, step (withAgenda s (.iopHalf f 1 :: rest)) =
        .next (withSif t f { x with
          fifo := x.fifo ++ [s.iopRead x.iopMadr], iopMadr := x.iopMadr + 4
          iop := { x.iop with counter := x.iop.counter - 1, cycles := cycles } }))
    ∧ (∀ w ws, x.iop.busy = true → ¬ pushes → 0 < x.iop.counter → x.fifo = w :: ws →
      ∃ mem cycles,
        let u := { withSif t f { x with
            fifo := ws, iopMadr := x.iopMadr + 4
            iop := { x.iop with counter := x.iop.counter - 1, cycles := cycles } } with mem := mem }
        step (withAgenda s (.iopHalf f 1 :: rest)) = .next u
        ∧ BytesAt u .iopRam (s.iopOffset x.iopMadr) 4 (w.setWidth 128)
        ∧ SameBytesOutside s u .iopRam (s.iopOffset x.iopMadr) 4)
    ∧ (x.iop.busy = true → pushes → x.iop.counter = 0 → 0 < x.iop.writeJunk → x.iop.writeJunk ≤ s.sifFree f →
      ∃ ws cycles draws, ws.length = x.iop.writeJunk ∧ step (withAgenda s (.iopHalf f n :: rest)) =
        .next { withSif t f { x with fifo := x.fifo ++ ws, iop := { x.iop with writeJunk := 0, cycles := cycles } } with
          env := { t.env with draws := draws } })
    ∧ (x.iop.busy = true → ¬ pushes → x.iop.counter = 0 → 0 < x.iop.writeJunk → x.iop.writeJunk ≤ s.sifSize f →
      ∃ cycles, step (withAgenda s (.iopHalf f n :: rest)) =
        .next (withSif t f { x with
          fifo := x.fifo.drop x.iop.writeJunk, iop := { x.iop with writeJunk := 0, cycles := cycles } }))
    ∧ (x.iop.busy = true → x.iop.counter = 0 → x.iop.writeJunk = 0 → x.iop.last = true →
      ∃ d, 1 ≤ d ∧ step (withAgenda s (.iopHalf f n :: rest)) =
        .next (withSif t f { x with
          iopEv := some d, iop := { x.iop with busy := false, last := false, cycles := 0 } }))
    ∧ (∀ d, x.iopEv = some d →
      step (withAgenda s (.fireIop f :: rest)) =
        .next { withSif t f { x with iopEv := none } with env := { t.env with out := some (.psxInt f) } })
    ∧ (x.iopEv = none → step (withAgenda s (.fireIop f :: rest)) = .next t)
end

