-- ==== Sys2Proof/Laws/Bytes.lean ====
section
/-!
SUPPORT. Little-endian byte lists: the byte and the bit of a value, the two round trips, and what the host's commands
decode to.
-/

namespace Sys2Proof

@[simp] theorem length_leBytes (n : Nat) (v : Quad) : (leBytes n v).length = n := by
  induction n generalizing v with
  | zero => rfl
  | succ n ih => simp only [leBytes, List.length_cons, ih]

/-- Byte `i` of a little-endian list. -/
theorem getD_leBytes (n : Nat) (v : Quad) (i : Nat) (h : i < n) :
    (leBytes n v).getD i 0 = (v >>> (8 * i)).setWidth 8 := by
  induction n generalizing v i with
  | zero => omega
  | succ n ih =>
    cases i with
    | zero => simp [leBytes]
    | succ i =>
      simp only [leBytes, List.getD_cons_succ]
      rw [ih (v >>> 8) i (by omega), ← BitVec.shiftRight_add, show 8 + 8 * i = 8 * (i + 1) by omega]

/-- Bit `k` of the value of a byte list. -/
theorem getLsbD_ofLeBytes (bs : List Byte) (k : Nat) (h : k < 128) :
    (ofLeBytes bs).getLsbD k = (bs.getD (k / 8) 0).getLsbD (k % 8) := by
  induction bs generalizing k with
  | nil => simp [ofLeBytes]
  | cons b bs ih =>
    simp only [ofLeBytes, BitVec.getLsbD_or, BitVec.getLsbD_shiftLeft, BitVec.getLsbD_setWidth]
    by_cases hk : k < 8
    · rw [show k / 8 = 0 by omega, show k % 8 = k by omega]
      simp [hk, h]
    · obtain ⟨j, hj⟩ : ∃ j, k = j + 8 := ⟨k - 8, by omega⟩
      subst hj
      rw [show (j + 8) / 8 = j / 8 + 1 by omega, show (j + 8) % 8 = j % 8 by omega, List.getD_cons_succ]
      have hb : b.getLsbD (j + 8) = false := BitVec.getLsbD_of_ge b _ (by omega)
      simp only [h, decide_true, hb, Bool.and_false, Bool.or_false, Bool.true_and, hk, decide_false, Bool.not_false,
        Nat.add_sub_cancel]
      exact ih j (by omega)

/-- Byte `i` of the value of a byte list. -/
theorem byte_ofLeBytes (bs : List Byte) (i : Nat) (h : i < 16) :
    ((ofLeBytes bs) >>> (8 * i)).setWidth 8 = bs.getD i 0 := by
  apply BitVec.eq_of_getLsbD_eq
  intro k hk
  rw [BitVec.getLsbD_setWidth, BitVec.getLsbD_ushiftRight, getLsbD_ofLeBytes _ _ (by omega)]
  rw [show (8 * i + k) / 8 = i by omega, show (8 * i + k) % 8 = k by omega]
  simp [hk]

/-- Assembling the first `n` bytes of a value gives its low `8 * n` bits. -/
theorem ofLeBytes_leBytes (n : Nat) (v : Quad) :
    ofLeBytes (leBytes n v) = (v.setWidth (8 * n)).setWidth 128 := by
  apply BitVec.eq_of_getLsbD_eq
  intro k hk
  rw [getLsbD_ofLeBytes _ _ hk, BitVec.getLsbD_setWidth, BitVec.getLsbD_setWidth]
  by_cases h : k < 8 * n
  · rw [getD_leBytes _ _ _ (by omega), BitVec.getLsbD_setWidth, BitVec.getLsbD_ushiftRight,
      show 8 * (k / 8) + k % 8 = k by omega]
    simp [h, hk, show k % 8 < 8 by omega]
  · rw [List.getD_eq_default _ _ (by rw [length_leBytes]; omega)]
    simp [h]

theorem ofLeBytes_leBytes_16 (v : Quad) : ofLeBytes (leBytes 16 v) = v := by
  rw [ofLeBytes_leBytes 16 v]
  simp

/-- Sixteen bytes are the bytes of their value. -/
theorem leBytes_ofLeBytes (bs : List Byte) (n : Nat) (hn : n ≤ 16) (h : bs.length = n) : leBytes n (ofLeBytes bs) = bs := by
  apply List.ext_getElem (by rw [length_leBytes, h])
  intro i h1 h2
  have := getD_leBytes n (ofLeBytes bs) i (by rw [length_leBytes] at h1; exact h1)
  rw [byte_ofLeBytes bs i (by omega)] at this
  rw [List.getD_eq_getElem _ _ h1, List.getD_eq_getElem _ _ h2] at this
  exact this

/-- The four words of a quadword, back from its value. -/
theorem wordOf_quadOf (w0 w1 w2 w3 : Word) :
    wordOf (quadOf w0 w1 w2 w3) 0 = w0 ∧ wordOf (quadOf w0 w1 w2 w3) 1 = w1
      ∧ wordOf (quadOf w0 w1 w2 w3) 2 = w2 ∧ wordOf (quadOf w0 w1 w2 w3) 3 = w3 := by
  have h : ∀ k, k < 128 → (quadOf w0 w1 w2 w3).getLsbD k =
      if k < 32 then w0.getLsbD k else if k < 64 then w1.getLsbD (k - 32)
      else if k < 96 then w2.getLsbD (k - 64) else w3.getLsbD (k - 96) := by
    intro k hk
    simp only [quadOf, BitVec.getLsbD_append]
    by_cases h1 : k < 32
    · rw [if_pos (by omega), if_pos (by omega), if_pos h1, if_pos h1]
    · by_cases h2 : k < 64
      · rw [if_pos (by omega), if_pos h2, if_neg h1, if_neg h1, if_pos h2]
      · by_cases h3 : k < 96
        · rw [if_pos h3, if_neg h2, if_neg h1, if_neg h2, if_pos h3]
        · rw [if_neg h3, if_neg h1, if_neg h2, if_neg h3]
  refine ⟨?_, ?_, ?_, ?_⟩ <;> apply BitVec.eq_of_getLsbD_eq <;> intro k hk <;>
    rw [wordOf, BitVec.getLsbD_extractLsb', h _ (by omega)]
  · rw [if_pos (by omega)]; simp [hk]
  · rw [if_neg (by omega), if_pos (by omega)]; simp [hk]
  · rw [if_neg (by omega), if_neg (by omega), if_pos (by omega)]; simp [hk]
  · rw [if_neg (by omega), if_neg (by omega), if_neg (by omega)]; simp [hk]

/-- A quadword is its four words. -/
theorem quadOf_wordOf (q : Quad) : quadOf (wordOf q 0) (wordOf q 1) (wordOf q 2) (wordOf q 3) = q := by
  apply BitVec.eq_of_getLsbD_eq
  intro k hk
  simp only [wordOf, quadOf, BitVec.getLsbD_extractLsb', BitVec.getLsbD_append]
  by_cases h3 : k < 96
  · by_cases h2 : k < 64
    · by_cases h1 : k < 32
      · simp [h1, h2, h3]
      · simp [h1, h2, h3, show k - 32 < 32 by omega, show 32 + (k - 32) = k by omega]
    · simp [h2, h3, show k - 64 < 32 by omega, show 64 + (k - 64) = k by omega]
  · simp [h3, show k - 96 < 32 by omega, show 96 + (k - 96) = k by omega]

/-! ### The host's commands -/

theorem word_ofLeBytes (v : Word) : (ofLeBytes (leBytes 4 (v.setWidth 128))).setWidth 32 = v := by
  rw [ofLeBytes_leBytes]
  simp

/-- A register write's bytes decode to the write. -/
theorem decode_encodeWrite (a v : Word) : decode .mmioWrite (encodeWrite a v) = decodeWrite a v := by
  have h1 : (encodeWrite a v).take 4 = leBytes 4 (a.setWidth 128) := by simp [encodeWrite, leBytes]
  have h2 : ((encodeWrite a v).drop 4).take 4 = leBytes 4 (v.setWidth 128) := by simp [encodeWrite, leBytes]
  unfold decode
  rw [if_neg (by simp [encodeWrite, Port.length]), h1, h2, word_ofLeBytes, word_ofLeBytes]

/-- A register read's bytes decode to the read. -/
theorem decode_encodeRead (a : Word) : decode .mmioRead (encodeRead a) = decodeRead a := by
  have h1 : (encodeRead a).take 4 = leBytes 4 (a.setWidth 128) := by simp [encodeRead, leBytes]
  unfold decode
  rw [if_neg (by simp [encodeRead, Port.length]), h1, word_ofLeBytes]

/-- A dispatcher call's bytes decode to the dispatcher of the selector. -/
theorem decode_encodeDispatch (sel : BitVec 5) (va : Word) (v : Quad) :
    decode .dispatch (encodeDispatch sel va v) =
      match dispatcher? sel va v with
      | some i => .ok i
      | none => .bad (.notADispatcher (sel.setWidth 8)) := by
  have h0 : (ofLeBytes ((encodeDispatch sel va v).take 1)).setWidth 8 = sel.setWidth 8 := by
    simp [encodeDispatch, leBytes, ofLeBytes]
  have h1 : ((encodeDispatch sel va v).drop 1).take 4 = leBytes 4 (va.setWidth 128) := by simp [encodeDispatch, leBytes]
  have h2 : ((encodeDispatch sel va v).drop 5).take 16 = leBytes 16 v := by simp [encodeDispatch, leBytes]
  have hs : (sel.setWidth 8).toNat < 32 := by simp; omega
  have h3 : (sel.setWidth 8).setWidth 5 = sel := by simp
  unfold decode
  rw [if_neg (by simp [encodeDispatch, Port.length])]
  cases hd : dispatcher? sel va v <;> simp only [h0, h1, h2, h3, if_pos hs, word_ofLeBytes, ofLeBytes_leBytes_16, hd]

end Sys2Proof
end

