-- ==== Sys2Proof/Laws/State.lean ====
section
/-!
SUPPORT. The fields of an updated state: one lemma per field per update of Ops.lean, and the laws of the ten-channel and
three-channel records.
-/

namespace Sys2Proof.Machine

/-! ### PerChan and PerSif -/

@[simp] theorem PerChan.get_set_self {α : Type} (p : PerChan α) (c : Ch) (a : α) : (p.set c a).get c = a := by
  cases c <;> rfl

theorem PerChan.get_set_of_ne {α : Type} (p : PerChan α) {c k : Ch} (a : α) (h : k ≠ c) :
    (p.set c a).get k = p.get k := by
  cases c <;> cases k <;> first | rfl | exact absurd rfl h

/-- The value of channel `k` after an update of channel `c`. -/
theorem PerChan.get_set {α : Type} (p : PerChan α) (c k : Ch) (a : α) :
    (p.set c a).get k = if k = c then a else p.get k := by
  split
  · next h => subst h; exact p.get_set_self k a
  · next h => exact p.get_set_of_ne a h

@[simp] theorem PerChan.set_get_self {α : Type} (p : PerChan α) (c : Ch) : p.set c (p.get c) = p := by
  cases c <;> rfl

@[simp] theorem PerChan.set_set {α : Type} (p : PerChan α) (c : Ch) (a b : α) : (p.set c a).set c b = p.set c b := by
  cases c <;> rfl

theorem PerChan.set_comm {α : Type} (p : PerChan α) {c k : Ch} (a b : α) (h : c ≠ k) :
    (p.set c a).set k b = (p.set k b).set c a := by
  cases c <;> cases k <;> first | rfl | exact absurd rfl h

@[simp] theorem PerChan.get_all {α : Type} (a : α) (c : Ch) : (PerChan.all a).get c = a := by
  cases c <;> rfl

/-- Two records that agree on every channel are equal. -/
theorem PerChan.ext_get {α : Type} {p q : PerChan α} (h : ∀ c, p.get c = q.get c) : p = q := by
  obtain ⟨a0, a1, a2, a3, a4, a5, a6, a7, a8, a9⟩ := p
  obtain ⟨b0, b1, b2, b3, b4, b5, b6, b7, b8, b9⟩ := q
  have h0 := h .vif0; have h1 := h .vif1; have h2 := h .gif; have h3 := h .ipu0; have h4 := h .ipu1
  have h5 := h .sif0; have h6 := h .sif1; have h7 := h .sif2; have h8 := h .spr0; have h9 := h .spr1
  simp only [PerChan.get] at *
  subst_vars
  rfl

@[simp] theorem PerSif.get_set_self {α : Type} (p : PerSif α) (f : Sif) (a : α) : (p.set f a).get f = a := by
  cases f <;> rfl

theorem PerSif.get_set_of_ne {α : Type} (p : PerSif α) {f k : Sif} (a : α) (h : k ≠ f) :
    (p.set f a).get k = p.get k := by
  cases f <;> cases k <;> first | rfl | exact absurd rfl h

/-- The value of SIF channel `k` after an update of SIF channel `f`. -/
theorem PerSif.get_set {α : Type} (p : PerSif α) (f k : Sif) (a : α) :
    (p.set f a).get k = if k = f then a else p.get k := by
  split
  · next h => subst h; exact p.get_set_self k a
  · next h => exact p.get_set_of_ne a h

@[simp] theorem PerSif.set_get_self {α : Type} (p : PerSif α) (f : Sif) : p.set f (p.get f) = p := by
  cases f <;> rfl

@[simp] theorem PerSif.set_set {α : Type} (p : PerSif α) (f : Sif) (a b : α) : (p.set f a).set f b = p.set f b := by
  cases f <;> rfl

@[simp] theorem PerSif.get_all {α : Type} (a : α) (f : Sif) : (PerSif.all a).get f = a := by
  cases f <;> rfl

/-- Two records that agree on every SIF channel are equal. -/
theorem PerSif.ext_get {α : Type} {p q : PerSif α} (h : ∀ f, p.get f = q.get f) : p = q := by
  obtain ⟨a0, a1, a2⟩ := p
  obtain ⟨b0, b1, b2⟩ := q
  have h0 := h .sif0; have h1 := h .sif1; have h2 := h .sif2
  simp only [PerSif.get] at *
  subst_vars
  rfl

/-- The channel number determines the channel. -/
theorem Ch.num_injective {c k : Ch} (h : c.num = k.num) : c = k := by
  cases c <;> cases k <;> first | rfl | exact absurd h (by decide)

theorem Ch.num_lt (c : Ch) : c.num < 10 := by cases c <;> decide

theorem Ch.mem_all (c : Ch) : c ∈ Ch.all := by cases c <;> decide

/-! ### Fields of an updated state -/

-- updChan
@[simp] theorem State.updChan_chan (s : State) (c : Ch) (f : Chan → Chan) :
    (s.updChan c f).chan = s.chan.set c (f (s.chan.get c)) := rfl
@[simp] theorem State.updChan_g (s : State) (c : Ch) (f : Chan → Chan) :
    (s.updChan c f).g = s.g := rfl
@[simp] theorem State.updChan_gen (s : State) (c : Ch) (f : Chan → Chan) :
    (s.updChan c f).gen = s.gen := rfl
@[simp] theorem State.updChan_eng (s : State) (c : Ch) (f : Chan → Chan) :
    (s.updChan c f).eng = s.eng := rfl
@[simp] theorem State.updChan_queued (s : State) (c : Ch) (f : Chan → Chan) :
    (s.updChan c f).queued = s.queued := rfl
@[simp] theorem State.updChan_ev (s : State) (c : Ch) (f : Chan → Chan) :
    (s.updChan c f).ev = s.ev := rfl
@[simp] theorem State.updChan_sif (s : State) (c : Ch) (f : Chan → Chan) :
    (s.updChan c f).sif = s.sif := rfl
@[simp] theorem State.updChan_ipu (s : State) (c : Ch) (f : Chan → Chan) :
    (s.updChan c f).ipu = s.ipu := rfl
@[simp] theorem State.updChan_mem (s : State) (c : Ch) (f : Chan → Chan) :
    (s.updChan c f).mem = s.mem := rfl
@[simp] theorem State.updChan_vtlb (s : State) (c : Ch) (f : Chan → Chan) :
    (s.updChan c f).vtlb = s.vtlb := rfl
@[simp] theorem State.updChan_faults (s : State) (c : Ch) (f : Chan → Chan) :
    (s.updChan c f).faults = s.faults := rfl
@[simp] theorem State.updChan_refused (s : State) (c : Ch) (f : Chan → Chan) :
    (s.updChan c f).refused = s.refused := rfl
@[simp] theorem State.updChan_params (s : State) (c : Ch) (f : Chan → Chan) :
    (s.updChan c f).params = s.params := rfl
@[simp] theorem State.updChan_env (s : State) (c : Ch) (f : Chan → Chan) :
    (s.updChan c f).env = s.env := rfl

-- updEng
@[simp] theorem State.updEng_chan (s : State) (c : Ch) (f : Engine → Engine) :
    (s.updEng c f).chan = s.chan := rfl
@[simp] theorem State.updEng_g (s : State) (c : Ch) (f : Engine → Engine) :
    (s.updEng c f).g = s.g := rfl
@[simp] theorem State.updEng_gen (s : State) (c : Ch) (f : Engine → Engine) :
    (s.updEng c f).gen = s.gen := rfl
@[simp] theorem State.updEng_eng (s : State) (c : Ch) (f : Engine → Engine) :
    (s.updEng c f).eng = s.eng.set c (f (s.eng.get c)) := rfl
@[simp] theorem State.updEng_queued (s : State) (c : Ch) (f : Engine → Engine) :
    (s.updEng c f).queued = s.queued := rfl
@[simp] theorem State.updEng_ev (s : State) (c : Ch) (f : Engine → Engine) :
    (s.updEng c f).ev = s.ev := rfl
@[simp] theorem State.updEng_sif (s : State) (c : Ch) (f : Engine → Engine) :
    (s.updEng c f).sif = s.sif := rfl
@[simp] theorem State.updEng_ipu (s : State) (c : Ch) (f : Engine → Engine) :
    (s.updEng c f).ipu = s.ipu := rfl
@[simp] theorem State.updEng_mem (s : State) (c : Ch) (f : Engine → Engine) :
    (s.updEng c f).mem = s.mem := rfl
@[simp] theorem State.updEng_vtlb (s : State) (c : Ch) (f : Engine → Engine) :
    (s.updEng c f).vtlb = s.vtlb := rfl
@[simp] theorem State.updEng_faults (s : State) (c : Ch) (f : Engine → Engine) :
    (s.updEng c f).faults = s.faults := rfl
@[simp] theorem State.updEng_refused (s : State) (c : Ch) (f : Engine → Engine) :
    (s.updEng c f).refused = s.refused := rfl
@[simp] theorem State.updEng_params (s : State) (c : Ch) (f : Engine → Engine) :
    (s.updEng c f).params = s.params := rfl
@[simp] theorem State.updEng_env (s : State) (c : Ch) (f : Engine → Engine) :
    (s.updEng c f).env = s.env := rfl

-- updSif
@[simp] theorem State.updSif_chan (s : State) (f : Sif) (u : SifChan → SifChan) :
    (s.updSif f u).chan = s.chan := rfl
@[simp] theorem State.updSif_g (s : State) (f : Sif) (u : SifChan → SifChan) :
    (s.updSif f u).g = s.g := rfl
@[simp] theorem State.updSif_gen (s : State) (f : Sif) (u : SifChan → SifChan) :
    (s.updSif f u).gen = s.gen := rfl
@[simp] theorem State.updSif_eng (s : State) (f : Sif) (u : SifChan → SifChan) :
    (s.updSif f u).eng = s.eng := rfl
@[simp] theorem State.updSif_queued (s : State) (f : Sif) (u : SifChan → SifChan) :
    (s.updSif f u).queued = s.queued := rfl
@[simp] theorem State.updSif_ev (s : State) (f : Sif) (u : SifChan → SifChan) :
    (s.updSif f u).ev = s.ev := rfl
@[simp] theorem State.updSif_sif (s : State) (f : Sif) (u : SifChan → SifChan) :
    (s.updSif f u).sif = s.sif.set f (u (s.sif.get f)) := rfl
@[simp] theorem State.updSif_ipu (s : State) (f : Sif) (u : SifChan → SifChan) :
    (s.updSif f u).ipu = s.ipu := rfl
@[simp] theorem State.updSif_mem (s : State) (f : Sif) (u : SifChan → SifChan) :
    (s.updSif f u).mem = s.mem := rfl
@[simp] theorem State.updSif_vtlb (s : State) (f : Sif) (u : SifChan → SifChan) :
    (s.updSif f u).vtlb = s.vtlb := rfl
@[simp] theorem State.updSif_faults (s : State) (f : Sif) (u : SifChan → SifChan) :
    (s.updSif f u).faults = s.faults := rfl
@[simp] theorem State.updSif_refused (s : State) (f : Sif) (u : SifChan → SifChan) :
    (s.updSif f u).refused = s.refused := rfl
@[simp] theorem State.updSif_params (s : State) (f : Sif) (u : SifChan → SifChan) :
    (s.updSif f u).params = s.params := rfl
@[simp] theorem State.updSif_env (s : State) (f : Sif) (u : SifChan → SifChan) :
    (s.updSif f u).env = s.env := rfl

-- setQueued
@[simp] theorem State.setQueued_chan (s : State) (c : Ch) (b : Bool) :
    (s.setQueued c b).chan = s.chan := rfl
@[simp] theorem State.setQueued_g (s : State) (c : Ch) (b : Bool) :
    (s.setQueued c b).g = s.g := rfl
@[simp] theorem State.setQueued_gen (s : State) (c : Ch) (b : Bool) :
    (s.setQueued c b).gen = s.gen := rfl
@[simp] theorem State.setQueued_eng (s : State) (c : Ch) (b : Bool) :
    (s.setQueued c b).eng = s.eng := rfl
@[simp] theorem State.setQueued_queued (s : State) (c : Ch) (b : Bool) :
    (s.setQueued c b).queued = withBit s.queued c.num b := rfl
@[simp] theorem State.setQueued_ev (s : State) (c : Ch) (b : Bool) :
    (s.setQueued c b).ev = s.ev := rfl
@[simp] theorem State.setQueued_sif (s : State) (c : Ch) (b : Bool) :
    (s.setQueued c b).sif = s.sif := rfl
@[simp] theorem State.setQueued_ipu (s : State) (c : Ch) (b : Bool) :
    (s.setQueued c b).ipu = s.ipu := rfl
@[simp] theorem State.setQueued_mem (s : State) (c : Ch) (b : Bool) :
    (s.setQueued c b).mem = s.mem := rfl
@[simp] theorem State.setQueued_vtlb (s : State) (c : Ch) (b : Bool) :
    (s.setQueued c b).vtlb = s.vtlb := rfl
@[simp] theorem State.setQueued_faults (s : State) (c : Ch) (b : Bool) :
    (s.setQueued c b).faults = s.faults := rfl
@[simp] theorem State.setQueued_refused (s : State) (c : Ch) (b : Bool) :
    (s.setQueued c b).refused = s.refused := rfl
@[simp] theorem State.setQueued_params (s : State) (c : Ch) (b : Bool) :
    (s.setQueued c b).params = s.params := rfl
@[simp] theorem State.setQueued_env (s : State) (c : Ch) (b : Bool) :
    (s.setQueued c b).env = s.env := rfl

-- setEv
@[simp] theorem State.setEv_chan (s : State) (c : Ch) (e : Option Nat) :
    (s.setEv c e).chan = s.chan := rfl
@[simp] theorem State.setEv_g (s : State) (c : Ch) (e : Option Nat) :
    (s.setEv c e).g = s.g := rfl
@[simp] theorem State.setEv_gen (s : State) (c : Ch) (e : Option Nat) :
    (s.setEv c e).gen = s.gen := rfl
@[simp] theorem State.setEv_eng (s : State) (c : Ch) (e : Option Nat) :
    (s.setEv c e).eng = s.eng := rfl
@[simp] theorem State.setEv_queued (s : State) (c : Ch) (e : Option Nat) :
    (s.setEv c e).queued = s.queued := rfl
@[simp] theorem State.setEv_ev (s : State) (c : Ch) (e : Option Nat) :
    (s.setEv c e).ev = s.ev.set c e := rfl
@[simp] theorem State.setEv_sif (s : State) (c : Ch) (e : Option Nat) :
    (s.setEv c e).sif = s.sif := rfl
@[simp] theorem State.setEv_ipu (s : State) (c : Ch) (e : Option Nat) :
    (s.setEv c e).ipu = s.ipu := rfl
@[simp] theorem State.setEv_mem (s : State) (c : Ch) (e : Option Nat) :
    (s.setEv c e).mem = s.mem := rfl
@[simp] theorem State.setEv_vtlb (s : State) (c : Ch) (e : Option Nat) :
    (s.setEv c e).vtlb = s.vtlb := rfl
@[simp] theorem State.setEv_faults (s : State) (c : Ch) (e : Option Nat) :
    (s.setEv c e).faults = s.faults := rfl
@[simp] theorem State.setEv_refused (s : State) (c : Ch) (e : Option Nat) :
    (s.setEv c e).refused = s.refused := rfl
@[simp] theorem State.setEv_params (s : State) (c : Ch) (e : Option Nat) :
    (s.setEv c e).params = s.params := rfl
@[simp] theorem State.setEv_env (s : State) (c : Ch) (e : Option Nat) :
    (s.setEv c e).env = s.env := rfl

-- setG
@[simp] theorem State.setG_chan (s : State) (x : Globals) :
    (s.setG x).chan = s.chan := rfl
@[simp] theorem State.setG_g (s : State) (x : Globals) :
    (s.setG x).g = x := rfl
@[simp] theorem State.setG_gen (s : State) (x : Globals) :
    (s.setG x).gen = s.gen := rfl
@[simp] theorem State.setG_eng (s : State) (x : Globals) :
    (s.setG x).eng = s.eng := rfl
@[simp] theorem State.setG_queued (s : State) (x : Globals) :
    (s.setG x).queued = s.queued := rfl
@[simp] theorem State.setG_ev (s : State) (x : Globals) :
    (s.setG x).ev = s.ev := rfl
@[simp] theorem State.setG_sif (s : State) (x : Globals) :
    (s.setG x).sif = s.sif := rfl
@[simp] theorem State.setG_ipu (s : State) (x : Globals) :
    (s.setG x).ipu = s.ipu := rfl
@[simp] theorem State.setG_mem (s : State) (x : Globals) :
    (s.setG x).mem = s.mem := rfl
@[simp] theorem State.setG_vtlb (s : State) (x : Globals) :
    (s.setG x).vtlb = s.vtlb := rfl
@[simp] theorem State.setG_faults (s : State) (x : Globals) :
    (s.setG x).faults = s.faults := rfl
@[simp] theorem State.setG_refused (s : State) (x : Globals) :
    (s.setG x).refused = s.refused := rfl
@[simp] theorem State.setG_params (s : State) (x : Globals) :
    (s.setG x).params = s.params := rfl
@[simp] theorem State.setG_env (s : State) (x : Globals) :
    (s.setG x).env = s.env := rfl

-- setRet
@[simp] theorem State.setRet_chan (s : State) (x : Returned) :
    (s.setRet x).chan = s.chan := rfl
@[simp] theorem State.setRet_g (s : State) (x : Returned) :
    (s.setRet x).g = s.g := rfl
@[simp] theorem State.setRet_gen (s : State) (x : Returned) :
    (s.setRet x).gen = s.gen := rfl
@[simp] theorem State.setRet_eng (s : State) (x : Returned) :
    (s.setRet x).eng = s.eng := rfl
@[simp] theorem State.setRet_queued (s : State) (x : Returned) :
    (s.setRet x).queued = s.queued := rfl
@[simp] theorem State.setRet_ev (s : State) (x : Returned) :
    (s.setRet x).ev = s.ev := rfl
@[simp] theorem State.setRet_sif (s : State) (x : Returned) :
    (s.setRet x).sif = s.sif := rfl
@[simp] theorem State.setRet_ipu (s : State) (x : Returned) :
    (s.setRet x).ipu = s.ipu := rfl
@[simp] theorem State.setRet_mem (s : State) (x : Returned) :
    (s.setRet x).mem = s.mem := rfl
@[simp] theorem State.setRet_vtlb (s : State) (x : Returned) :
    (s.setRet x).vtlb = s.vtlb := rfl
@[simp] theorem State.setRet_faults (s : State) (x : Returned) :
    (s.setRet x).faults = s.faults := rfl
@[simp] theorem State.setRet_refused (s : State) (x : Returned) :
    (s.setRet x).refused = s.refused := rfl
@[simp] theorem State.setRet_params (s : State) (x : Returned) :
    (s.setRet x).params = s.params := rfl
@[simp] theorem State.setRet_env (s : State) (x : Returned) :
    (s.setRet x).env = { s.env with ret := x } := rfl

-- setOut
@[simp] theorem State.setOut_chan (s : State) (x : Output) :
    (s.setOut x).chan = s.chan := rfl
@[simp] theorem State.setOut_g (s : State) (x : Output) :
    (s.setOut x).g = s.g := rfl
@[simp] theorem State.setOut_gen (s : State) (x : Output) :
    (s.setOut x).gen = s.gen := rfl
@[simp] theorem State.setOut_eng (s : State) (x : Output) :
    (s.setOut x).eng = s.eng := rfl
@[simp] theorem State.setOut_queued (s : State) (x : Output) :
    (s.setOut x).queued = s.queued := rfl
@[simp] theorem State.setOut_ev (s : State) (x : Output) :
    (s.setOut x).ev = s.ev := rfl
@[simp] theorem State.setOut_sif (s : State) (x : Output) :
    (s.setOut x).sif = s.sif := rfl
@[simp] theorem State.setOut_ipu (s : State) (x : Output) :
    (s.setOut x).ipu = s.ipu := rfl
@[simp] theorem State.setOut_mem (s : State) (x : Output) :
    (s.setOut x).mem = s.mem := rfl
@[simp] theorem State.setOut_vtlb (s : State) (x : Output) :
    (s.setOut x).vtlb = s.vtlb := rfl
@[simp] theorem State.setOut_faults (s : State) (x : Output) :
    (s.setOut x).faults = s.faults := rfl
@[simp] theorem State.setOut_refused (s : State) (x : Output) :
    (s.setOut x).refused = s.refused := rfl
@[simp] theorem State.setOut_params (s : State) (x : Output) :
    (s.setOut x).params = s.params := rfl
@[simp] theorem State.setOut_env (s : State) (x : Output) :
    (s.setOut x).env = { s.env with out := some x } := rfl

-- addFault
@[simp] theorem State.addFault_chan (s : State) (x : FaultRecord) :
    (s.addFault x).chan = s.chan := rfl
@[simp] theorem State.addFault_g (s : State) (x : FaultRecord) :
    (s.addFault x).g = s.g := rfl
@[simp] theorem State.addFault_gen (s : State) (x : FaultRecord) :
    (s.addFault x).gen = s.gen := rfl
@[simp] theorem State.addFault_eng (s : State) (x : FaultRecord) :
    (s.addFault x).eng = s.eng := rfl
@[simp] theorem State.addFault_queued (s : State) (x : FaultRecord) :
    (s.addFault x).queued = s.queued := rfl
@[simp] theorem State.addFault_ev (s : State) (x : FaultRecord) :
    (s.addFault x).ev = s.ev := rfl
@[simp] theorem State.addFault_sif (s : State) (x : FaultRecord) :
    (s.addFault x).sif = s.sif := rfl
@[simp] theorem State.addFault_ipu (s : State) (x : FaultRecord) :
    (s.addFault x).ipu = s.ipu := rfl
@[simp] theorem State.addFault_mem (s : State) (x : FaultRecord) :
    (s.addFault x).mem = s.mem := rfl
@[simp] theorem State.addFault_vtlb (s : State) (x : FaultRecord) :
    (s.addFault x).vtlb = s.vtlb := rfl
@[simp] theorem State.addFault_faults (s : State) (x : FaultRecord) :
    (s.addFault x).faults = if x ∈ s.faults then s.faults else s.faults ++ [x] := rfl
@[simp] theorem State.addFault_refused (s : State) (x : FaultRecord) :
    (s.addFault x).refused = s.refused := rfl
@[simp] theorem State.addFault_params (s : State) (x : FaultRecord) :
    (s.addFault x).params = s.params := rfl
@[simp] theorem State.addFault_env (s : State) (x : FaultRecord) :
    (s.addFault x).env = s.env := rfl

-- refuse
@[simp] theorem State.refuse_chan (s : State) (x : Refusal) :
    (s.refuse x).chan = s.chan := rfl
@[simp] theorem State.refuse_g (s : State) (x : Refusal) :
    (s.refuse x).g = s.g := rfl
@[simp] theorem State.refuse_gen (s : State) (x : Refusal) :
    (s.refuse x).gen = s.gen := rfl
@[simp] theorem State.refuse_eng (s : State) (x : Refusal) :
    (s.refuse x).eng = s.eng := rfl
@[simp] theorem State.refuse_queued (s : State) (x : Refusal) :
    (s.refuse x).queued = s.queued := rfl
@[simp] theorem State.refuse_ev (s : State) (x : Refusal) :
    (s.refuse x).ev = s.ev := rfl
@[simp] theorem State.refuse_sif (s : State) (x : Refusal) :
    (s.refuse x).sif = s.sif := rfl
@[simp] theorem State.refuse_ipu (s : State) (x : Refusal) :
    (s.refuse x).ipu = s.ipu := rfl
@[simp] theorem State.refuse_mem (s : State) (x : Refusal) :
    (s.refuse x).mem = s.mem := rfl
@[simp] theorem State.refuse_vtlb (s : State) (x : Refusal) :
    (s.refuse x).vtlb = s.vtlb := rfl
@[simp] theorem State.refuse_faults (s : State) (x : Refusal) :
    (s.refuse x).faults = s.faults := rfl
@[simp] theorem State.refuse_refused (s : State) (x : Refusal) :
    (s.refuse x).refused = some x := rfl
@[simp] theorem State.refuse_params (s : State) (x : Refusal) :
    (s.refuse x).params = s.params := rfl
@[simp] theorem State.refuse_env (s : State) (x : Refusal) :
    (s.refuse x).env = s.env := rfl

-- memWrite
@[simp] theorem State.memWrite_chan (s : State) (r : Region) (a n : Nat) (v : Quad) :
    (s.memWrite r a n v).chan = s.chan := rfl
@[simp] theorem State.memWrite_g (s : State) (r : Region) (a n : Nat) (v : Quad) :
    (s.memWrite r a n v).g = s.g := rfl
@[simp] theorem State.memWrite_gen (s : State) (r : Region) (a n : Nat) (v : Quad) :
    (s.memWrite r a n v).gen = s.gen := rfl
@[simp] theorem State.memWrite_eng (s : State) (r : Region) (a n : Nat) (v : Quad) :
    (s.memWrite r a n v).eng = s.eng := rfl
@[simp] theorem State.memWrite_queued (s : State) (r : Region) (a n : Nat) (v : Quad) :
    (s.memWrite r a n v).queued = s.queued := rfl
@[simp] theorem State.memWrite_ev (s : State) (r : Region) (a n : Nat) (v : Quad) :
    (s.memWrite r a n v).ev = s.ev := rfl
@[simp] theorem State.memWrite_sif (s : State) (r : Region) (a n : Nat) (v : Quad) :
    (s.memWrite r a n v).sif = s.sif := rfl
@[simp] theorem State.memWrite_ipu (s : State) (r : Region) (a n : Nat) (v : Quad) :
    (s.memWrite r a n v).ipu = s.ipu := rfl
@[simp] theorem State.memWrite_mem (s : State) (r : Region) (a n : Nat) (v : Quad) :
    (s.memWrite r a n v).mem = s.mem.set r ((s.mem.get r).writeBytes a (leBytes n v)) := rfl
@[simp] theorem State.memWrite_vtlb (s : State) (r : Region) (a n : Nat) (v : Quad) :
    (s.memWrite r a n v).vtlb = s.vtlb := rfl
@[simp] theorem State.memWrite_faults (s : State) (r : Region) (a n : Nat) (v : Quad) :
    (s.memWrite r a n v).faults = s.faults := rfl
@[simp] theorem State.memWrite_refused (s : State) (r : Region) (a n : Nat) (v : Quad) :
    (s.memWrite r a n v).refused = s.refused := rfl
@[simp] theorem State.memWrite_params (s : State) (r : Region) (a n : Nat) (v : Quad) :
    (s.memWrite r a n v).params = s.params := rfl
@[simp] theorem State.memWrite_env (s : State) (r : Region) (a n : Nat) (v : Quad) :
    (s.memWrite r a n v).env = s.env := rfl

-- hwDmacIrq
@[simp] theorem State.hwDmacIrq_chan (s : State) (b : Nat) :
    (s.hwDmacIrq b).chan = s.chan := rfl
@[simp] theorem State.hwDmacIrq_g (s : State) (b : Nat) :
    (s.hwDmacIrq b).g = { s.g with stat := withBit s.g.stat b true } := rfl
@[simp] theorem State.hwDmacIrq_gen (s : State) (b : Nat) :
    (s.hwDmacIrq b).gen = s.gen := rfl
@[simp] theorem State.hwDmacIrq_eng (s : State) (b : Nat) :
    (s.hwDmacIrq b).eng = s.eng := rfl
@[simp] theorem State.hwDmacIrq_queued (s : State) (b : Nat) :
    (s.hwDmacIrq b).queued = s.queued := rfl
@[simp] theorem State.hwDmacIrq_ev (s : State) (b : Nat) :
    (s.hwDmacIrq b).ev = s.ev := rfl
@[simp] theorem State.hwDmacIrq_sif (s : State) (b : Nat) :
    (s.hwDmacIrq b).sif = s.sif := rfl
@[simp] theorem State.hwDmacIrq_ipu (s : State) (b : Nat) :
    (s.hwDmacIrq b).ipu = s.ipu := rfl
@[simp] theorem State.hwDmacIrq_mem (s : State) (b : Nat) :
    (s.hwDmacIrq b).mem = s.mem := rfl
@[simp] theorem State.hwDmacIrq_vtlb (s : State) (b : Nat) :
    (s.hwDmacIrq b).vtlb = s.vtlb := rfl
@[simp] theorem State.hwDmacIrq_faults (s : State) (b : Nat) :
    (s.hwDmacIrq b).faults = s.faults := rfl
@[simp] theorem State.hwDmacIrq_refused (s : State) (b : Nat) :
    (s.hwDmacIrq b).refused = s.refused := rfl
@[simp] theorem State.hwDmacIrq_params (s : State) (b : Nat) :
    (s.hwDmacIrq b).params = s.params := rfl
@[simp] theorem State.hwDmacIrq_env (s : State) (b : Nat) :
    (s.hwDmacIrq b).env = s.env := rfl

/-! ### Reads through an update -/

@[simp] theorem State.str_updEng (s : State) (c k : Ch) (f : Engine → Engine) : (s.updEng c f).str k = s.str k := rfl
@[simp] theorem State.str_setEv (s : State) (c k : Ch) (e : Option Nat) : (s.setEv c e).str k = s.str k := rfl
@[simp] theorem State.str_setQueued (s : State) (c k : Ch) (b : Bool) : (s.setQueued c b).str k = s.str k := rfl
@[simp] theorem State.str_setG (s : State) (k : Ch) (g : Globals) : (s.setG g).str k = s.str k := rfl
@[simp] theorem State.str_updSif (s : State) (f : Sif) (k : Ch) (u : SifChan → SifChan) :
    (s.updSif f u).str k = s.str k := rfl
@[simp] theorem State.dmacRunnable_updEng (s : State) (c : Ch) (f : Engine → Engine) :
    (s.updEng c f).dmacRunnable = s.dmacRunnable := rfl
@[simp] theorem State.dmacRunnable_updChan (s : State) (c : Ch) (f : Chan → Chan) :
    (s.updChan c f).dmacRunnable = s.dmacRunnable := rfl
@[simp] theorem State.dmacRunnable_setQueued (s : State) (c : Ch) (b : Bool) :
    (s.setQueued c b).dmacRunnable = s.dmacRunnable := rfl
@[simp] theorem State.dmacRunnable_addFault (s : State) (r : FaultRecord) :
    (s.addFault r).dmacRunnable = s.dmacRunnable := rfl

/-- Recording a fault leaves a record. -/
theorem State.addFault_faults_ne (s : State) (r : FaultRecord) : (s.addFault r).faults ≠ [] := by
  simp only [State.addFault_faults]
  split
  · next h => exact List.ne_nil_of_mem h
  · simp

end Sys2Proof.Machine
end

