-- ==== Sys2Proof/Laws/Memory.lean ====
section
/-!
SUPPORT. The laws of cells and memory: what is read after a write, and that every memory operation keeps the canonical
form. The read laws hold of every list, canonical or not.
-/

namespace Sys2Proof.Machine

/-! ### Cells: reads -/

theorem cellGet_insert {α : Type} (d : α) (l : List (Nat × α)) (a : Nat) (v : α) (b : Nat) :
    cellGet d (cellInsert l a v) b = if a = b then v else cellGet d l b := by
  induction l with
  | nil => simp only [cellInsert, cellGet]
  | cons x rest ih =>
    obtain ⟨k, w⟩ := x
    simp only [cellInsert]
    by_cases h1 : a < k
    · simp only [if_pos h1, cellGet]
    · by_cases h2 : a = k
      · subst h2
        simp only [lt_irrefl, if_false, if_true, cellGet]
        split <;> rfl
      · simp only [if_neg h1, if_neg h2, cellGet, ih]
        by_cases h3 : k = b
        · simp only [if_pos h3]
          rw [if_neg (by omega)]
        · simp only [if_neg h3]

theorem cellGet_erase {α : Type} (d : α) (l : List (Nat × α)) (a b : Nat) :
    cellGet d (cellErase l a) b = if a = b then d else cellGet d l b := by
  induction l with
  | nil => simp only [cellErase, List.filter_nil, cellGet, ite_self]
  | cons x rest ih =>
    obtain ⟨k, w⟩ := x
    simp only [cellErase] at ih
    simp only [cellErase, List.filter_cons, bne_iff_ne, ne_eq]
    by_cases h : k = a
    · rw [if_neg (not_not.mpr h), ih]
      simp only [cellGet]
      by_cases hb : a = b
      · rw [if_pos hb, if_pos hb]
      · rw [if_neg hb, if_neg hb, if_neg (by omega)]
    · rw [if_pos h]
      simp only [cellGet, ih]
      by_cases hb : k = b
      · rw [if_pos hb, if_pos hb, if_neg (by omega)]
      · rw [if_neg hb, if_neg hb]

/-- What a write leaves to read: the value at its address, the rest as it was. -/
theorem cellGet_put {α : Type} [DecidableEq α] (d : α) (l : List (Nat × α)) (a : Nat) (v : α) (b : Nat) :
    cellGet d (cellPut d l a v) b = if a = b then v else cellGet d l b := by
  unfold cellPut
  split
  · next h => rw [cellGet_erase, h]
  · rw [cellGet_insert]

/-! ### Cells: the canonical form -/

theorem mem_cellInsert {α : Type} {l : List (Nat × α)} {a : Nat} {v : α} {c : Nat × α}
    (h : c ∈ cellInsert l a v) : c = (a, v) ∨ c ∈ l := by
  induction l with
  | nil => exact .inl (List.mem_singleton.mp h)
  | cons x rest ih =>
    obtain ⟨k, w⟩ := x
    simp only [cellInsert] at h
    split at h
    · rcases List.mem_cons.mp h with h | h
      · exact .inl h
      · exact .inr h
    · split at h
      · rcases List.mem_cons.mp h with h | h
        · exact .inl h
        · exact .inr (List.mem_cons_of_mem _ h)
      · rcases List.mem_cons.mp h with h | h
        · exact .inr (h ▸ List.mem_cons_self)
        · rcases ih h with h | h
          · exact .inl h
          · exact .inr (List.mem_cons_of_mem _ h)

theorem cellInsert_pairwise {α : Type} {l : List (Nat × α)} (h : l.Pairwise fun x y => x.1 < y.1) (a : Nat) (v : α) :
    (cellInsert l a v).Pairwise fun x y => x.1 < y.1 := by
  induction l with
  | nil => exact List.pairwise_singleton _ _
  | cons x rest ih =>
    obtain ⟨k, w⟩ := x
    obtain ⟨hx, hr⟩ := List.pairwise_cons.mp h
    simp only [cellInsert]
    split
    · next hak =>
      refine List.pairwise_cons.mpr ⟨fun c hc => ?_, h⟩
      rcases List.mem_cons.mp hc with hc | hc
      · rw [hc]; exact hak
      · exact lt_trans hak (hx c hc)
    · split
      · next _ hak => exact List.pairwise_cons.mpr ⟨fun c hc => hak ▸ hx c hc, hr⟩
      · next hak hne =>
        refine List.pairwise_cons.mpr ⟨fun c hc => ?_, ih hr⟩
        rcases mem_cellInsert hc with hc | hc
        · rw [hc]; simp only; omega
        · exact hx c hc

/-- A write keeps the canonical form. -/
theorem cellsWf_put {α : Type} [DecidableEq α] {d : α} {l : List (Nat × α)} (h : cellsWf d l) (a : Nat) (v : α) :
    cellsWf d (cellPut d l a v) := by
  obtain ⟨hp, hd⟩ := h
  unfold cellPut
  split
  · exact ⟨hp.filter _, fun c hc => hd c (List.mem_filter.mp hc).1⟩
  · next hv =>
    refine ⟨cellInsert_pairwise hp a v, fun c hc => ?_⟩
    rcases mem_cellInsert hc with hc | hc
    · rw [hc]; exact hv
    · exact hd c hc

/-- Canonical lists that read alike are equal. -/
theorem cellsWf_ext {α : Type} {d : α} {l m : List (Nat × α)} (hl : cellsWf d l) (hm : cellsWf d m)
    (h : ∀ a, cellGet d l a = cellGet d m a) : l = m := by
  have low : ∀ {n : List (Nat × α)} {k : Nat}, (∀ c ∈ n, k < c.1) → ∀ b, b ≤ k → cellGet d n b = d := by
    intro n k hk b hb
    induction n with
    | nil => rfl
    | cons x rest ih =>
      obtain ⟨j, w⟩ := x
      have hj : k < j := hk (j, w) List.mem_cons_self
      simp only [cellGet]
      rw [if_neg (by omega)]
      exact ih fun c hc => hk c (List.mem_cons_of_mem _ hc)
  induction l generalizing m with
  | nil =>
    cases m with
    | nil => rfl
    | cons y rest =>
      obtain ⟨k, w⟩ := y
      have hk := h k
      simp only [cellGet, if_true] at hk
      exact absurd hk.symm (hm.2 (k, w) List.mem_cons_self)
  | cons x rest ih =>
    obtain ⟨k, w⟩ := x
    obtain ⟨hx, hr⟩ := List.pairwise_cons.mp hl.1
    have hw : w ≠ d := hl.2 (k, w) List.mem_cons_self
    cases m with
    | nil =>
      have hk := h k
      simp only [cellGet, if_true] at hk
      exact absurd hk hw
    | cons y rest' =>
      obtain ⟨j, u⟩ := y
      obtain ⟨hy, hr'⟩ := List.pairwise_cons.mp hm.1
      have hu : u ≠ d := hm.2 (j, u) List.mem_cons_self
      have hkj : k = j := by
        rcases lt_trichotomy k j with hlt | heq | hgt
        · exfalso
          have hk := h k
          simp only [cellGet, if_true] at hk
          rw [if_neg (by omega), low hy k (by omega)] at hk
          exact hw hk
        · exact heq
        · exfalso
          have hk := h j
          simp only [cellGet, if_true] at hk
          rw [if_neg (by omega), low hx j (by omega)] at hk
          exact hu hk.symm
      subst hkj
      have hwu : w = u := by
        have hk := h k
        simpa only [cellGet, if_true] using hk
      subst hwu
      congr 1
      refine ih ⟨hr, fun c hc => hl.2 c (List.mem_cons_of_mem _ hc)⟩
        ⟨hr', fun c hc => hm.2 c (List.mem_cons_of_mem _ hc)⟩ fun a => ?_
      by_cases ha : k = a
      · subst ha
        rw [low hx k (le_refl _), low hy k (le_refl _)]
      · have := h a
        simpa only [cellGet, if_neg ha] using this

/-! ### Memory: bytes -/

theorem Memory.read_write (m : Memory) (a : Nat) (v : Byte) (b : Nat) :
    (m.write a v).read b = if a = b then v else m.read b :=
  cellGet_put _ _ _ _ _

theorem Memory.wf_write {m : Memory} (h : m.wf) (a : Nat) (v : Byte) : (m.write a v).wf := cellsWf_put h a v

/-- What a run of written bytes leaves to read. -/
theorem Memory.read_writeBytes (m : Memory) (a : Nat) (bs : List Byte) (b : Nat) :
    (m.writeBytes a bs).read b = if a ≤ b ∧ b < a + bs.length then bs.getD (b - a) 0 else m.read b := by
  induction bs generalizing m a with
  | nil =>
    rw [if_neg (by simp only [List.length_nil]; omega)]
    rfl
  | cons x rest ih =>
    simp only [Memory.writeBytes, ih, List.length_cons]
    by_cases h : a + 1 ≤ b ∧ b < a + 1 + rest.length
    · rw [if_pos h, if_pos (by omega)]
      obtain ⟨j, hj⟩ : ∃ j, b - a = j + 1 := ⟨b - (a + 1), by omega⟩
      rw [hj, show b - (a + 1) = j by omega]
      rfl
    · rw [if_neg h, Memory.read_write]
      by_cases hb : a = b
      · subst hb
        rw [if_pos rfl, if_pos (by omega)]
        simp
      · rw [if_neg hb, if_neg (by omega)]

theorem Memory.wf_writeBytes {m : Memory} (h : m.wf) (a : Nat) (bs : List Byte) : (m.writeBytes a bs).wf := by
  induction bs generalizing m a with
  | nil => exact h
  | cons x rest ih => exact ih (Memory.wf_write h a x) (a + 1)

theorem Memory.length_readBytes (m : Memory) (a n : Nat) : (m.readBytes a n).length = n := by
  induction n generalizing a with
  | zero => rfl
  | succ n ih => simp only [Memory.readBytes, List.length_cons, ih]

theorem Memory.getD_readBytes (m : Memory) (a n i : Nat) (h : i < n) : (m.readBytes a n).getD i 0 = m.read (a + i) := by
  induction n generalizing a i with
  | zero => omega
  | succ n ih =>
    cases i with
    | zero => rfl
    | succ i =>
      simp only [Memory.readBytes, List.getD_cons_succ]
      rw [ih (a + 1) i (by omega), show a + 1 + i = a + (i + 1) by omega]

/-! ### The backing memories -/

/-- Whether the machine has a backing memory. -/
def Memories.has (m : Memories) : Region → Prop
  | .extra i => i < m.extra.length
  | _ => True

theorem Memories.get_extra_set_extra (m : Memories) (i j : Nat) (x : Memory) :
    (m.set (.extra i) x).get (.extra j) =
      ((m.extra[j]?).map fun e => if i = j then x else e.mem).getD [] := by
  change (((m.extra.modify i fun e => { e with mem := x })[j]?).map ExtraRegion.mem).getD [] = _
  rw [List.getElem?_modify]
  cases m.extra[j]? with
  | none => rfl
  | some e =>
    by_cases h : i = j
    · simp [h]
    · simp [h]

theorem Memories.get_set_self (m : Memories) (r : Region) (x : Memory) (h : m.has r) : (m.set r x).get r = x := by
  cases r with
  | ram => rfl
  | spr => rfl
  | iopRam => rfl
  | extra i =>
    have h : i < m.extra.length := h
    rw [Memories.get_extra_set_extra, List.getElem?_eq_getElem h]
    simp

theorem Memories.get_set_of_ne (m : Memories) {r q : Region} (x : Memory) (h : q ≠ r) :
    (m.set r x).get q = m.get q := by
  cases r <;> cases q <;> first | rfl | exact absurd rfl h | skip
  next i j =>
    rw [Memories.get_extra_set_extra]
    simp only [if_neg (fun e => h (congrArg _ e.symm) : ¬ i = j)]
    rfl

/-- Writing a memory the machine does not have changes nothing. -/
theorem Memories.set_of_not_has (m : Memories) (r : Region) (x : Memory) (h : ¬ m.has r) : m.set r x = m := by
  cases r with
  | extra i =>
    have hi : m.extra.length ≤ i := not_lt.mp h
    have : m.extra.modify i (fun e => { e with mem := x }) = m.extra := by
      apply List.ext_getElem?
      intro j
      rw [List.getElem?_modify]
      by_cases hij : i = j
      · subst hij; rw [List.getElem?_eq_none hi]; rfl
      · simp [hij]
    simp only [Memories.set, this]
  | _ => exact absurd trivial h

/-- The regions and sizes of the extra memories are fixed. -/
theorem Memories.length_extra_set (m : Memories) (r : Region) (x : Memory) :
    (m.set r x).extra.length = m.extra.length := by
  cases r <;> simp [Memories.set]

/-- A store leaves the base, the size and the permission of every extra region. -/
theorem Memories.layout_set (m : Memories) (r : Region) (x : Memory) :
    (m.set r x).extra.map (fun e => (e.base, e.size, e.writable)) =
      m.extra.map fun e => (e.base, e.size, e.writable) := by
  cases r with
  | extra i =>
    apply List.ext_getElem?
    intro j
    simp only [Memories.set, List.getElem?_map, List.getElem?_modify]
    cases m.extra[j]? with
    | none => rfl
    | some e => by_cases h : i = j <;> simp [h]
  | _ => rfl

/-- The byte at `(q, b)` after a store of `n` bytes of `v` at `(r, a)`. -/
theorem State.readByte_memWrite (s : State) (r : Region) (a n : Nat) (v : Quad) (h : s.mem.has r) (q : Region) (b : Nat) :
    (s.memWrite r a n v).readByte q b =
      if q = r ∧ a ≤ b ∧ b < a + (leBytes n v).length then (leBytes n v).getD (b - a) 0 else s.readByte q b := by
  simp only [State.readByte, State.memWrite_mem]
  by_cases hq : q = r
  · subst hq
    rw [Memories.get_set_self _ _ _ h, Memory.read_writeBytes]
    simp only [true_and]
  · rw [Memories.get_set_of_ne _ _ hq, if_neg (fun e => hq e.1)]

/-- A store leaves every byte outside it as it was, in every memory. -/
theorem State.readByte_memWrite_frame (s : State) (r : Region) (a n : Nat) (v : Quad) (q : Region) (b : Nat)
    (h : ¬ (q = r ∧ a ≤ b ∧ b < a + (leBytes n v).length)) :
    (s.memWrite r a n v).readByte q b = s.readByte q b := by
  by_cases hr : s.mem.has r
  · rw [State.readByte_memWrite s r a n v hr, if_neg h]
  · simp only [State.readByte, State.memWrite_mem, Memories.set_of_not_has _ _ _ hr]

/-- Every backing memory is in canonical form. -/
def Memories.wf (m : Memories) : Prop := m.ram.wf ∧ m.spr.wf ∧ m.iopRam.wf ∧ ∀ e ∈ m.extra, e.mem.wf

theorem Memories.wf_get {m : Memories} (h : m.wf) (r : Region) : (m.get r).wf := by
  cases r with
  | ram => exact h.1
  | spr => exact h.2.1
  | iopRam => exact h.2.2.1
  | extra i =>
    simp only [Memories.get]
    cases he : m.extra[i]? with
    | none => exact ⟨List.Pairwise.nil, fun _ hc => nomatch hc⟩
    | some e => exact h.2.2.2 e (List.mem_of_getElem? he)

theorem Memories.wf_set {m : Memories} (h : m.wf) (r : Region) {x : Memory} (hx : x.wf) : (m.set r x).wf := by
  cases r with
  | ram => exact ⟨hx, h.2⟩
  | spr => exact ⟨h.1, hx, h.2.2⟩
  | iopRam => exact ⟨h.1, h.2.1, hx, h.2.2.2⟩
  | extra i =>
    refine ⟨h.1, h.2.1, h.2.2.1, fun e he => ?_⟩
    simp only [Memories.set] at he
    obtain ⟨j, hj, rfl⟩ := List.mem_iff_getElem.mp he
    rw [List.getElem_modify]
    split
    · exact hx
    · exact h.2.2.2 _ (List.getElem_mem _)

/-- Every store keeps the canonical form of the memories. -/
theorem State.memWrite_wf {s : State} (h : s.mem.wf) (r : Region) (a n : Nat) (v : Quad) : (s.memWrite r a n v).mem.wf :=
  Memories.wf_set h r (Memory.wf_writeBytes (Memories.wf_get h r) a _)

/-- The reset state's memory is in canonical form. -/
theorem State.reset_mem_wf : State.reset.mem.wf := by
  have h : Memory.wf [] := ⟨List.Pairwise.nil, fun _ hc => nomatch hc⟩
  exact ⟨h, h, h, fun _ he => nomatch he⟩

end Sys2Proof.Machine
end

