-- ==== Sys2Proof/Laws/Address.lean ====
section
/-!
SUPPORT. What a resolved DMA address names (20_memory.md R101), and the bytes of a quadword in memory.
-/

namespace Sys2Proof.Machine

theorem extraAt_some {rs : List ExtraRegion} {i p : Nat} {w : Bool} {l : Loc} (h : extraAt rs i p w = some l) :
    ∃ j, l.region = .extra j ∧ i ≤ j ∧ j < i + rs.length := by
  induction rs generalizing i with
  | nil => exact nomatch h
  | cons r rs ih =>
    unfold extraAt at h
    split at h
    · cases h; exact ⟨i, rfl, le_rfl, by simp⟩
    · obtain ⟨j, h1, h2, h3⟩ := ih h
      exact ⟨j, h1, by omega, by simp only [List.length_cons]; omega⟩

/-- A resolved address lies in a backing memory the machine has. -/
theorem State.dmaAddr_has {s : State} {a : Word} {w : Bool} {l : Loc} (h : s.dmaAddr a w = some l) :
    s.mem.has l.region := by
  unfold State.dmaAddr at h
  split at h
  · cases h; trivial
  · simp only [] at h
    split at h
    · cases h; trivial
    · obtain ⟨j, h1, -, h3⟩ := extraAt_some h
      rw [h1]
      show j < s.mem.extra.length
      omega

/-- A byte of a value, written either way. -/
theorem setWidth_shiftRight_eq_extract (v : Quad) (i : Nat) : (v >>> i).setWidth 8 = v.extractLsb' i 8 := by
  apply BitVec.eq_of_getLsbD_eq
  intro k hk
  simp only [BitVec.getLsbD_setWidth, BitVec.getLsbD_ushiftRight, BitVec.getLsbD_extractLsb', hk, decide_true]

/-- The bytes a store leaves where it stores. -/
theorem State.readByte_memWrite_at (s : State) (r : Region) (a n : Nat) (v : Quad) (h : s.mem.has r) {i : Nat}
    (hi : i < n) : (s.memWrite r a n v).readByte r (a + i) = v.extractLsb' (8 * i) 8 := by
  rw [State.readByte_memWrite _ _ _ _ _ h, if_pos ⟨rfl, by omega, by rw [length_leBytes]; omega⟩,
    Nat.add_sub_cancel_left, getD_leBytes _ _ _ hi, setWidth_shiftRight_eq_extract]

/-- Two quadwords with the same bytes are equal. -/
theorem quad_ext {p q : Quad} (h : ∀ i, i < 16 → p.extractLsb' (8 * i) 8 = q.extractLsb' (8 * i) 8) : p = q := by
  apply BitVec.eq_of_getLsbD_eq
  intro k hk
  have := congrArg (fun b => b.getLsbD (k % 8)) (h (k / 8) (by omega))
  simpa only [BitVec.getLsbD_extractLsb', show k % 8 < 8 by omega, decide_true, Bool.true_and,
    show 8 * (k / 8) + k % 8 = k by omega] using this

/-- The quadword read at a place, from its bytes. -/
theorem State.memRead_eq (s : State) (r : Region) (a : Nat) (q : Quad)
    (h : ∀ i, i < 16 → s.readByte r (a + i) = q.extractLsb' (8 * i) 8) : s.memRead r a 16 = q := by
  apply quad_ext
  intro i hi
  unfold State.memRead
  rw [← setWidth_shiftRight_eq_extract, byte_ofLeBytes _ _ hi, Memory.getD_readBytes _ _ _ _ hi, ← h i hi]
  rfl

end Sys2Proof.Machine
end

