-- ==== Sys2Proof/Laws/Frames.lean ====
section
/-!
SUPPORT. What each shared operation leaves unchanged: one lemma per operation and untouched field, so that no later proof
unfolds an operation to see a field it does not write.
-/

namespace Sys2Proof.Machine

-- advanceMadr: only chan
@[simp] theorem State.advanceMadr_g (s : State) (c : Ch) :
    (s.advanceMadr c).g = s.g := rfl
@[simp] theorem State.advanceMadr_gen (s : State) (c : Ch) :
    (s.advanceMadr c).gen = s.gen := rfl
@[simp] theorem State.advanceMadr_eng (s : State) (c : Ch) :
    (s.advanceMadr c).eng = s.eng := rfl
@[simp] theorem State.advanceMadr_queued (s : State) (c : Ch) :
    (s.advanceMadr c).queued = s.queued := rfl
@[simp] theorem State.advanceMadr_ev (s : State) (c : Ch) :
    (s.advanceMadr c).ev = s.ev := rfl
@[simp] theorem State.advanceMadr_sif (s : State) (c : Ch) :
    (s.advanceMadr c).sif = s.sif := rfl
@[simp] theorem State.advanceMadr_ipu (s : State) (c : Ch) :
    (s.advanceMadr c).ipu = s.ipu := rfl
@[simp] theorem State.advanceMadr_mem (s : State) (c : Ch) :
    (s.advanceMadr c).mem = s.mem := rfl
@[simp] theorem State.advanceMadr_vtlb (s : State) (c : Ch) :
    (s.advanceMadr c).vtlb = s.vtlb := rfl
@[simp] theorem State.advanceMadr_faults (s : State) (c : Ch) :
    (s.advanceMadr c).faults = s.faults := rfl
@[simp] theorem State.advanceMadr_refused (s : State) (c : Ch) :
    (s.advanceMadr c).refused = s.refused := rfl
@[simp] theorem State.advanceMadr_params (s : State) (c : Ch) :
    (s.advanceMadr c).params = s.params := rfl
@[simp] theorem State.advanceMadr_env (s : State) (c : Ch) :
    (s.advanceMadr c).env = s.env := rfl

-- advanceSadr: only chan
@[simp] theorem State.advanceSadr_g (s : State) (c : Ch) :
    (s.advanceSadr c).g = s.g := rfl
@[simp] theorem State.advanceSadr_gen (s : State) (c : Ch) :
    (s.advanceSadr c).gen = s.gen := rfl
@[simp] theorem State.advanceSadr_eng (s : State) (c : Ch) :
    (s.advanceSadr c).eng = s.eng := rfl
@[simp] theorem State.advanceSadr_queued (s : State) (c : Ch) :
    (s.advanceSadr c).queued = s.queued := rfl
@[simp] theorem State.advanceSadr_ev (s : State) (c : Ch) :
    (s.advanceSadr c).ev = s.ev := rfl
@[simp] theorem State.advanceSadr_sif (s : State) (c : Ch) :
    (s.advanceSadr c).sif = s.sif := rfl
@[simp] theorem State.advanceSadr_ipu (s : State) (c : Ch) :
    (s.advanceSadr c).ipu = s.ipu := rfl
@[simp] theorem State.advanceSadr_mem (s : State) (c : Ch) :
    (s.advanceSadr c).mem = s.mem := rfl
@[simp] theorem State.advanceSadr_vtlb (s : State) (c : Ch) :
    (s.advanceSadr c).vtlb = s.vtlb := rfl
@[simp] theorem State.advanceSadr_faults (s : State) (c : Ch) :
    (s.advanceSadr c).faults = s.faults := rfl
@[simp] theorem State.advanceSadr_refused (s : State) (c : Ch) :
    (s.advanceSadr c).refused = s.refused := rfl
@[simp] theorem State.advanceSadr_params (s : State) (c : Ch) :
    (s.advanceSadr c).params = s.params := rfl
@[simp] theorem State.advanceSadr_env (s : State) (c : Ch) :
    (s.advanceSadr c).env = s.env := rfl

-- busError: only g, chan, eng, ev, queued
@[simp] theorem State.busError_gen (s : State) (c : Ch) :
    (s.busError c).gen = s.gen := rfl
@[simp] theorem State.busError_sif (s : State) (c : Ch) :
    (s.busError c).sif = s.sif := rfl
@[simp] theorem State.busError_ipu (s : State) (c : Ch) :
    (s.busError c).ipu = s.ipu := rfl
@[simp] theorem State.busError_mem (s : State) (c : Ch) :
    (s.busError c).mem = s.mem := rfl
@[simp] theorem State.busError_vtlb (s : State) (c : Ch) :
    (s.busError c).vtlb = s.vtlb := rfl
@[simp] theorem State.busError_faults (s : State) (c : Ch) :
    (s.busError c).faults = s.faults := rfl
@[simp] theorem State.busError_refused (s : State) (c : Ch) :
    (s.busError c).refused = s.refused := rfl
@[simp] theorem State.busError_params (s : State) (c : Ch) :
    (s.busError c).params = s.params := rfl
@[simp] theorem State.busError_env (s : State) (c : Ch) :
    (s.busError c).env = s.env := rfl

-- complete: only g, chan, eng, ev
@[simp] theorem State.complete_gen (s : State) (c : Ch) :
    (s.complete c).gen = s.gen := rfl
@[simp] theorem State.complete_queued (s : State) (c : Ch) :
    (s.complete c).queued = s.queued := rfl
@[simp] theorem State.complete_sif (s : State) (c : Ch) :
    (s.complete c).sif = s.sif := rfl
@[simp] theorem State.complete_ipu (s : State) (c : Ch) :
    (s.complete c).ipu = s.ipu := rfl
@[simp] theorem State.complete_mem (s : State) (c : Ch) :
    (s.complete c).mem = s.mem := rfl
@[simp] theorem State.complete_vtlb (s : State) (c : Ch) :
    (s.complete c).vtlb = s.vtlb := rfl
@[simp] theorem State.complete_faults (s : State) (c : Ch) :
    (s.complete c).faults = s.faults := rfl
@[simp] theorem State.complete_refused (s : State) (c : Ch) :
    (s.complete c).refused = s.refused := rfl
@[simp] theorem State.complete_params (s : State) (c : Ch) :
    (s.complete c).params = s.params := rfl
@[simp] theorem State.complete_env (s : State) (c : Ch) :
    (s.complete c).env = s.env := rfl

-- forceStop: only chan, eng, ev, queued
@[simp] theorem State.forceStop_g (s : State) (c : Ch) (v : Word) :
    (s.forceStop c v).g = s.g := rfl
@[simp] theorem State.forceStop_gen (s : State) (c : Ch) (v : Word) :
    (s.forceStop c v).gen = s.gen := rfl
@[simp] theorem State.forceStop_sif (s : State) (c : Ch) (v : Word) :
    (s.forceStop c v).sif = s.sif := rfl
@[simp] theorem State.forceStop_ipu (s : State) (c : Ch) (v : Word) :
    (s.forceStop c v).ipu = s.ipu := rfl
@[simp] theorem State.forceStop_mem (s : State) (c : Ch) (v : Word) :
    (s.forceStop c v).mem = s.mem := rfl
@[simp] theorem State.forceStop_vtlb (s : State) (c : Ch) (v : Word) :
    (s.forceStop c v).vtlb = s.vtlb := rfl
@[simp] theorem State.forceStop_faults (s : State) (c : Ch) (v : Word) :
    (s.forceStop c v).faults = s.faults := rfl
@[simp] theorem State.forceStop_refused (s : State) (c : Ch) (v : Word) :
    (s.forceStop c v).refused = s.refused := rfl
@[simp] theorem State.forceStop_params (s : State) (c : Ch) (v : Word) :
    (s.forceStop c v).params = s.params := rfl
@[simp] theorem State.forceStop_env (s : State) (c : Ch) (v : Word) :
    (s.forceStop c v).env = s.env := rfl

-- enterCompleting: only eng, ev
@[simp] theorem State.enterCompleting_chan (s : State) (c : Ch) :
    (s.enterCompleting c).chan = s.chan := rfl
@[simp] theorem State.enterCompleting_g (s : State) (c : Ch) :
    (s.enterCompleting c).g = s.g := rfl
@[simp] theorem State.enterCompleting_gen (s : State) (c : Ch) :
    (s.enterCompleting c).gen = s.gen := rfl
@[simp] theorem State.enterCompleting_queued (s : State) (c : Ch) :
    (s.enterCompleting c).queued = s.queued := rfl
@[simp] theorem State.enterCompleting_sif (s : State) (c : Ch) :
    (s.enterCompleting c).sif = s.sif := rfl
@[simp] theorem State.enterCompleting_ipu (s : State) (c : Ch) :
    (s.enterCompleting c).ipu = s.ipu := rfl
@[simp] theorem State.enterCompleting_mem (s : State) (c : Ch) :
    (s.enterCompleting c).mem = s.mem := rfl
@[simp] theorem State.enterCompleting_vtlb (s : State) (c : Ch) :
    (s.enterCompleting c).vtlb = s.vtlb := rfl
@[simp] theorem State.enterCompleting_faults (s : State) (c : Ch) :
    (s.enterCompleting c).faults = s.faults := rfl
@[simp] theorem State.enterCompleting_refused (s : State) (c : Ch) :
    (s.enterCompleting c).refused = s.refused := rfl
@[simp] theorem State.enterCompleting_params (s : State) (c : Ch) :
    (s.enterCompleting c).params = s.params := rfl
@[simp] theorem State.enterCompleting_env (s : State) (c : Ch) :
    (s.enterCompleting c).env = s.env := rfl

-- endEE: only eng, ev
@[simp] theorem State.endEE_chan (s : State) (c : Ch) :
    (s.endEE c).chan = s.chan := rfl
@[simp] theorem State.endEE_g (s : State) (c : Ch) :
    (s.endEE c).g = s.g := rfl
@[simp] theorem State.endEE_gen (s : State) (c : Ch) :
    (s.endEE c).gen = s.gen := rfl
@[simp] theorem State.endEE_queued (s : State) (c : Ch) :
    (s.endEE c).queued = s.queued := rfl
@[simp] theorem State.endEE_sif (s : State) (c : Ch) :
    (s.endEE c).sif = s.sif := rfl
@[simp] theorem State.endEE_ipu (s : State) (c : Ch) :
    (s.endEE c).ipu = s.ipu := rfl
@[simp] theorem State.endEE_mem (s : State) (c : Ch) :
    (s.endEE c).mem = s.mem := rfl
@[simp] theorem State.endEE_vtlb (s : State) (c : Ch) :
    (s.endEE c).vtlb = s.vtlb := rfl
@[simp] theorem State.endEE_faults (s : State) (c : Ch) :
    (s.endEE c).faults = s.faults := rfl
@[simp] theorem State.endEE_refused (s : State) (c : Ch) :
    (s.endEE c).refused = s.refused := rfl
@[simp] theorem State.endEE_params (s : State) (c : Ch) :
    (s.endEE c).params = s.params := rfl
@[simp] theorem State.endEE_env (s : State) (c : Ch) :
    (s.endEE c).env = s.env := rfl

-- endIOP: only sif
@[simp] theorem State.endIOP_chan (s : State) (f : Sif) :
    (s.endIOP f).chan = s.chan := rfl
@[simp] theorem State.endIOP_g (s : State) (f : Sif) :
    (s.endIOP f).g = s.g := rfl
@[simp] theorem State.endIOP_gen (s : State) (f : Sif) :
    (s.endIOP f).gen = s.gen := rfl
@[simp] theorem State.endIOP_eng (s : State) (f : Sif) :
    (s.endIOP f).eng = s.eng := rfl
@[simp] theorem State.endIOP_queued (s : State) (f : Sif) :
    (s.endIOP f).queued = s.queued := rfl
@[simp] theorem State.endIOP_ev (s : State) (f : Sif) :
    (s.endIOP f).ev = s.ev := rfl
@[simp] theorem State.endIOP_ipu (s : State) (f : Sif) :
    (s.endIOP f).ipu = s.ipu := rfl
@[simp] theorem State.endIOP_mem (s : State) (f : Sif) :
    (s.endIOP f).mem = s.mem := rfl
@[simp] theorem State.endIOP_vtlb (s : State) (f : Sif) :
    (s.endIOP f).vtlb = s.vtlb := rfl
@[simp] theorem State.endIOP_faults (s : State) (f : Sif) :
    (s.endIOP f).faults = s.faults := rfl
@[simp] theorem State.endIOP_refused (s : State) (f : Sif) :
    (s.endIOP f).refused = s.refused := rfl
@[simp] theorem State.endIOP_params (s : State) (f : Sif) :
    (s.endIOP f).params = s.params := rfl
@[simp] theorem State.endIOP_env (s : State) (f : Sif) :
    (s.endIOP f).env = s.env := rfl

-- genWrite: only gen
@[simp] theorem State.genWrite_chan (s : State) (a v : Word) :
    (s.genWrite a v).chan = s.chan := rfl
@[simp] theorem State.genWrite_g (s : State) (a v : Word) :
    (s.genWrite a v).g = s.g := rfl
@[simp] theorem State.genWrite_eng (s : State) (a v : Word) :
    (s.genWrite a v).eng = s.eng := rfl
@[simp] theorem State.genWrite_queued (s : State) (a v : Word) :
    (s.genWrite a v).queued = s.queued := rfl
@[simp] theorem State.genWrite_ev (s : State) (a v : Word) :
    (s.genWrite a v).ev = s.ev := rfl
@[simp] theorem State.genWrite_sif (s : State) (a v : Word) :
    (s.genWrite a v).sif = s.sif := rfl
@[simp] theorem State.genWrite_ipu (s : State) (a v : Word) :
    (s.genWrite a v).ipu = s.ipu := rfl
@[simp] theorem State.genWrite_mem (s : State) (a v : Word) :
    (s.genWrite a v).mem = s.mem := rfl
@[simp] theorem State.genWrite_vtlb (s : State) (a v : Word) :
    (s.genWrite a v).vtlb = s.vtlb := rfl
@[simp] theorem State.genWrite_faults (s : State) (a v : Word) :
    (s.genWrite a v).faults = s.faults := rfl
@[simp] theorem State.genWrite_refused (s : State) (a v : Word) :
    (s.genWrite a v).refused = s.refused := rfl
@[simp] theorem State.genWrite_params (s : State) (a v : Word) :
    (s.genWrite a v).params = s.params := rfl
@[simp] theorem State.genWrite_env (s : State) (a v : Word) :
    (s.genWrite a v).env = s.env := rfl

-- sifPush: only sif, faults
@[simp] theorem State.sifPush_chan (s : State) (f : Sif) (ws : List Word) :
    (s.sifPush f ws).chan = s.chan := by
  unfold State.sifPush; split <;> rfl
@[simp] theorem State.sifPush_g (s : State) (f : Sif) (ws : List Word) :
    (s.sifPush f ws).g = s.g := by
  unfold State.sifPush; split <;> rfl
@[simp] theorem State.sifPush_gen (s : State) (f : Sif) (ws : List Word) :
    (s.sifPush f ws).gen = s.gen := by
  unfold State.sifPush; split <;> rfl
@[simp] theorem State.sifPush_eng (s : State) (f : Sif) (ws : List Word) :
    (s.sifPush f ws).eng = s.eng := by
  unfold State.sifPush; split <;> rfl
@[simp] theorem State.sifPush_queued (s : State) (f : Sif) (ws : List Word) :
    (s.sifPush f ws).queued = s.queued := by
  unfold State.sifPush; split <;> rfl
@[simp] theorem State.sifPush_ev (s : State) (f : Sif) (ws : List Word) :
    (s.sifPush f ws).ev = s.ev := by
  unfold State.sifPush; split <;> rfl
@[simp] theorem State.sifPush_ipu (s : State) (f : Sif) (ws : List Word) :
    (s.sifPush f ws).ipu = s.ipu := by
  unfold State.sifPush; split <;> rfl
@[simp] theorem State.sifPush_mem (s : State) (f : Sif) (ws : List Word) :
    (s.sifPush f ws).mem = s.mem := by
  unfold State.sifPush; split <;> rfl
@[simp] theorem State.sifPush_vtlb (s : State) (f : Sif) (ws : List Word) :
    (s.sifPush f ws).vtlb = s.vtlb := by
  unfold State.sifPush; split <;> rfl
@[simp] theorem State.sifPush_refused (s : State) (f : Sif) (ws : List Word) :
    (s.sifPush f ws).refused = s.refused := by
  unfold State.sifPush; split <;> rfl
@[simp] theorem State.sifPush_params (s : State) (f : Sif) (ws : List Word) :
    (s.sifPush f ws).params = s.params := by
  unfold State.sifPush; split <;> rfl
@[simp] theorem State.sifPush_env (s : State) (f : Sif) (ws : List Word) :
    (s.sifPush f ws).env = s.env := by
  unfold State.sifPush; split <;> rfl

-- sifPop: only sif, faults
@[simp] theorem State.sifPop_chan (s : State) (f : Sif) (n : Nat) :
    (s.sifPop f n).2.chan = s.chan := by
  unfold State.sifPop; split <;> rfl
@[simp] theorem State.sifPop_g (s : State) (f : Sif) (n : Nat) :
    (s.sifPop f n).2.g = s.g := by
  unfold State.sifPop; split <;> rfl
@[simp] theorem State.sifPop_gen (s : State) (f : Sif) (n : Nat) :
    (s.sifPop f n).2.gen = s.gen := by
  unfold State.sifPop; split <;> rfl
@[simp] theorem State.sifPop_eng (s : State) (f : Sif) (n : Nat) :
    (s.sifPop f n).2.eng = s.eng := by
  unfold State.sifPop; split <;> rfl
@[simp] theorem State.sifPop_queued (s : State) (f : Sif) (n : Nat) :
    (s.sifPop f n).2.queued = s.queued := by
  unfold State.sifPop; split <;> rfl
@[simp] theorem State.sifPop_ev (s : State) (f : Sif) (n : Nat) :
    (s.sifPop f n).2.ev = s.ev := by
  unfold State.sifPop; split <;> rfl
@[simp] theorem State.sifPop_ipu (s : State) (f : Sif) (n : Nat) :
    (s.sifPop f n).2.ipu = s.ipu := by
  unfold State.sifPop; split <;> rfl
@[simp] theorem State.sifPop_mem (s : State) (f : Sif) (n : Nat) :
    (s.sifPop f n).2.mem = s.mem := by
  unfold State.sifPop; split <;> rfl
@[simp] theorem State.sifPop_vtlb (s : State) (f : Sif) (n : Nat) :
    (s.sifPop f n).2.vtlb = s.vtlb := by
  unfold State.sifPop; split <;> rfl
@[simp] theorem State.sifPop_refused (s : State) (f : Sif) (n : Nat) :
    (s.sifPop f n).2.refused = s.refused := by
  unfold State.sifPop; split <;> rfl
@[simp] theorem State.sifPop_params (s : State) (f : Sif) (n : Nat) :
    (s.sifPop f n).2.params = s.params := by
  unfold State.sifPop; split <;> rfl
@[simp] theorem State.sifPop_env (s : State) (f : Sif) (n : Nat) :
    (s.sifPop f n).2.env = s.env := by
  unfold State.sifPop; split <;> rfl

-- ipuInPush: only ipu, faults
@[simp] theorem State.ipuInPush_chan (s : State) (q : Quad) :
    (s.ipuInPush q).chan = s.chan := by
  unfold State.ipuInPush; split <;> rfl
@[simp] theorem State.ipuInPush_g (s : State) (q : Quad) :
    (s.ipuInPush q).g = s.g := by
  unfold State.ipuInPush; split <;> rfl
@[simp] theorem State.ipuInPush_gen (s : State) (q : Quad) :
    (s.ipuInPush q).gen = s.gen := by
  unfold State.ipuInPush; split <;> rfl
@[simp] theorem State.ipuInPush_eng (s : State) (q : Quad) :
    (s.ipuInPush q).eng = s.eng := by
  unfold State.ipuInPush; split <;> rfl
@[simp] theorem State.ipuInPush_queued (s : State) (q : Quad) :
    (s.ipuInPush q).queued = s.queued := by
  unfold State.ipuInPush; split <;> rfl
@[simp] theorem State.ipuInPush_ev (s : State) (q : Quad) :
    (s.ipuInPush q).ev = s.ev := by
  unfold State.ipuInPush; split <;> rfl
@[simp] theorem State.ipuInPush_sif (s : State) (q : Quad) :
    (s.ipuInPush q).sif = s.sif := by
  unfold State.ipuInPush; split <;> rfl
@[simp] theorem State.ipuInPush_mem (s : State) (q : Quad) :
    (s.ipuInPush q).mem = s.mem := by
  unfold State.ipuInPush; split <;> rfl
@[simp] theorem State.ipuInPush_vtlb (s : State) (q : Quad) :
    (s.ipuInPush q).vtlb = s.vtlb := by
  unfold State.ipuInPush; split <;> rfl
@[simp] theorem State.ipuInPush_refused (s : State) (q : Quad) :
    (s.ipuInPush q).refused = s.refused := by
  unfold State.ipuInPush; split <;> rfl
@[simp] theorem State.ipuInPush_params (s : State) (q : Quad) :
    (s.ipuInPush q).params = s.params := by
  unfold State.ipuInPush; split <;> rfl
@[simp] theorem State.ipuInPush_env (s : State) (q : Quad) :
    (s.ipuInPush q).env = s.env := by
  unfold State.ipuInPush; split <;> rfl

-- ipuOutPush: only ipu, faults
@[simp] theorem State.ipuOutPush_chan (s : State) (q : Quad) :
    (s.ipuOutPush q).chan = s.chan := by
  unfold State.ipuOutPush; split <;> rfl
@[simp] theorem State.ipuOutPush_g (s : State) (q : Quad) :
    (s.ipuOutPush q).g = s.g := by
  unfold State.ipuOutPush; split <;> rfl
@[simp] theorem State.ipuOutPush_gen (s : State) (q : Quad) :
    (s.ipuOutPush q).gen = s.gen := by
  unfold State.ipuOutPush; split <;> rfl
@[simp] theorem State.ipuOutPush_eng (s : State) (q : Quad) :
    (s.ipuOutPush q).eng = s.eng := by
  unfold State.ipuOutPush; split <;> rfl
@[simp] theorem State.ipuOutPush_queued (s : State) (q : Quad) :
    (s.ipuOutPush q).queued = s.queued := by
  unfold State.ipuOutPush; split <;> rfl
@[simp] theorem State.ipuOutPush_ev (s : State) (q : Quad) :
    (s.ipuOutPush q).ev = s.ev := by
  unfold State.ipuOutPush; split <;> rfl
@[simp] theorem State.ipuOutPush_sif (s : State) (q : Quad) :
    (s.ipuOutPush q).sif = s.sif := by
  unfold State.ipuOutPush; split <;> rfl
@[simp] theorem State.ipuOutPush_mem (s : State) (q : Quad) :
    (s.ipuOutPush q).mem = s.mem := by
  unfold State.ipuOutPush; split <;> rfl
@[simp] theorem State.ipuOutPush_vtlb (s : State) (q : Quad) :
    (s.ipuOutPush q).vtlb = s.vtlb := by
  unfold State.ipuOutPush; split <;> rfl
@[simp] theorem State.ipuOutPush_refused (s : State) (q : Quad) :
    (s.ipuOutPush q).refused = s.refused := by
  unfold State.ipuOutPush; split <;> rfl
@[simp] theorem State.ipuOutPush_params (s : State) (q : Quad) :
    (s.ipuOutPush q).params = s.params := by
  unfold State.ipuOutPush; split <;> rfl
@[simp] theorem State.ipuOutPush_env (s : State) (q : Quad) :
    (s.ipuOutPush q).env = s.env := by
  unfold State.ipuOutPush; split <;> rfl

-- ipuInPop: only ipu, faults
@[simp] theorem State.ipuInPop_chan (s : State) :
    s.ipuInPop.chan = s.chan := by
  unfold State.ipuInPop; split <;> rfl
@[simp] theorem State.ipuInPop_g (s : State) :
    s.ipuInPop.g = s.g := by
  unfold State.ipuInPop; split <;> rfl
@[simp] theorem State.ipuInPop_gen (s : State) :
    s.ipuInPop.gen = s.gen := by
  unfold State.ipuInPop; split <;> rfl
@[simp] theorem State.ipuInPop_eng (s : State) :
    s.ipuInPop.eng = s.eng := by
  unfold State.ipuInPop; split <;> rfl
@[simp] theorem State.ipuInPop_queued (s : State) :
    s.ipuInPop.queued = s.queued := by
  unfold State.ipuInPop; split <;> rfl
@[simp] theorem State.ipuInPop_ev (s : State) :
    s.ipuInPop.ev = s.ev := by
  unfold State.ipuInPop; split <;> rfl
@[simp] theorem State.ipuInPop_sif (s : State) :
    s.ipuInPop.sif = s.sif := by
  unfold State.ipuInPop; split <;> rfl
@[simp] theorem State.ipuInPop_mem (s : State) :
    s.ipuInPop.mem = s.mem := by
  unfold State.ipuInPop; split <;> rfl
@[simp] theorem State.ipuInPop_vtlb (s : State) :
    s.ipuInPop.vtlb = s.vtlb := by
  unfold State.ipuInPop; split <;> rfl
@[simp] theorem State.ipuInPop_refused (s : State) :
    s.ipuInPop.refused = s.refused := by
  unfold State.ipuInPop; split <;> rfl
@[simp] theorem State.ipuInPop_params (s : State) :
    s.ipuInPop.params = s.params := by
  unfold State.ipuInPop; split <;> rfl
@[simp] theorem State.ipuInPop_env (s : State) :
    s.ipuInPop.env = s.env := by
  unfold State.ipuInPop; split <;> rfl

-- ipuOutPop: only ipu, faults
@[simp] theorem State.ipuOutPop_chan (s : State) :
    s.ipuOutPop.2.chan = s.chan := by
  unfold State.ipuOutPop; split <;> rfl
@[simp] theorem State.ipuOutPop_g (s : State) :
    s.ipuOutPop.2.g = s.g := by
  unfold State.ipuOutPop; split <;> rfl
@[simp] theorem State.ipuOutPop_gen (s : State) :
    s.ipuOutPop.2.gen = s.gen := by
  unfold State.ipuOutPop; split <;> rfl
@[simp] theorem State.ipuOutPop_eng (s : State) :
    s.ipuOutPop.2.eng = s.eng := by
  unfold State.ipuOutPop; split <;> rfl
@[simp] theorem State.ipuOutPop_queued (s : State) :
    s.ipuOutPop.2.queued = s.queued := by
  unfold State.ipuOutPop; split <;> rfl
@[simp] theorem State.ipuOutPop_ev (s : State) :
    s.ipuOutPop.2.ev = s.ev := by
  unfold State.ipuOutPop; split <;> rfl
@[simp] theorem State.ipuOutPop_sif (s : State) :
    s.ipuOutPop.2.sif = s.sif := by
  unfold State.ipuOutPop; split <;> rfl
@[simp] theorem State.ipuOutPop_mem (s : State) :
    s.ipuOutPop.2.mem = s.mem := by
  unfold State.ipuOutPop; split <;> rfl
@[simp] theorem State.ipuOutPop_vtlb (s : State) :
    s.ipuOutPop.2.vtlb = s.vtlb := by
  unfold State.ipuOutPop; split <;> rfl
@[simp] theorem State.ipuOutPop_refused (s : State) :
    s.ipuOutPop.2.refused = s.refused := by
  unfold State.ipuOutPop; split <;> rfl
@[simp] theorem State.ipuOutPop_params (s : State) :
    s.ipuOutPop.2.params = s.params := by
  unfold State.ipuOutPop; split <;> rfl
@[simp] theorem State.ipuOutPop_env (s : State) :
    s.ipuOutPop.2.env = s.env := by
  unfold State.ipuOutPop; split <;> rfl

-- draw: only env
@[simp] theorem State.draw_chan (s : State) :
    s.draw.2.chan = s.chan := rfl
@[simp] theorem State.draw_g (s : State) :
    s.draw.2.g = s.g := rfl
@[simp] theorem State.draw_gen (s : State) :
    s.draw.2.gen = s.gen := rfl
@[simp] theorem State.draw_eng (s : State) :
    s.draw.2.eng = s.eng := rfl
@[simp] theorem State.draw_queued (s : State) :
    s.draw.2.queued = s.queued := rfl
@[simp] theorem State.draw_ev (s : State) :
    s.draw.2.ev = s.ev := rfl
@[simp] theorem State.draw_sif (s : State) :
    s.draw.2.sif = s.sif := rfl
@[simp] theorem State.draw_ipu (s : State) :
    s.draw.2.ipu = s.ipu := rfl
@[simp] theorem State.draw_mem (s : State) :
    s.draw.2.mem = s.mem := rfl
@[simp] theorem State.draw_vtlb (s : State) :
    s.draw.2.vtlb = s.vtlb := rfl
@[simp] theorem State.draw_faults (s : State) :
    s.draw.2.faults = s.faults := rfl
@[simp] theorem State.draw_refused (s : State) :
    s.draw.2.refused = s.refused := rfl
@[simp] theorem State.draw_params (s : State) :
    s.draw.2.params = s.params := rfl

-- drawN: only env
@[simp] theorem State.drawN_chan (s : State) (n : Nat) :
    (s.drawN n).2.chan = s.chan := by
  induction n generalizing s with
  | zero => rfl
  | succ n ih => exact ih s.draw.2
@[simp] theorem State.drawN_g (s : State) (n : Nat) :
    (s.drawN n).2.g = s.g := by
  induction n generalizing s with
  | zero => rfl
  | succ n ih => exact ih s.draw.2
@[simp] theorem State.drawN_gen (s : State) (n : Nat) :
    (s.drawN n).2.gen = s.gen := by
  induction n generalizing s with
  | zero => rfl
  | succ n ih => exact ih s.draw.2
@[simp] theorem State.drawN_eng (s : State) (n : Nat) :
    (s.drawN n).2.eng = s.eng := by
  induction n generalizing s with
  | zero => rfl
  | succ n ih => exact ih s.draw.2
@[simp] theorem State.drawN_queued (s : State) (n : Nat) :
    (s.drawN n).2.queued = s.queued := by
  induction n generalizing s with
  | zero => rfl
  | succ n ih => exact ih s.draw.2
@[simp] theorem State.drawN_ev (s : State) (n : Nat) :
    (s.drawN n).2.ev = s.ev := by
  induction n generalizing s with
  | zero => rfl
  | succ n ih => exact ih s.draw.2
@[simp] theorem State.drawN_sif (s : State) (n : Nat) :
    (s.drawN n).2.sif = s.sif := by
  induction n generalizing s with
  | zero => rfl
  | succ n ih => exact ih s.draw.2
@[simp] theorem State.drawN_ipu (s : State) (n : Nat) :
    (s.drawN n).2.ipu = s.ipu := by
  induction n generalizing s with
  | zero => rfl
  | succ n ih => exact ih s.draw.2
@[simp] theorem State.drawN_mem (s : State) (n : Nat) :
    (s.drawN n).2.mem = s.mem := by
  induction n generalizing s with
  | zero => rfl
  | succ n ih => exact ih s.draw.2
@[simp] theorem State.drawN_vtlb (s : State) (n : Nat) :
    (s.drawN n).2.vtlb = s.vtlb := by
  induction n generalizing s with
  | zero => rfl
  | succ n ih => exact ih s.draw.2
@[simp] theorem State.drawN_faults (s : State) (n : Nat) :
    (s.drawN n).2.faults = s.faults := by
  induction n generalizing s with
  | zero => rfl
  | succ n ih => exact ih s.draw.2
@[simp] theorem State.drawN_refused (s : State) (n : Nat) :
    (s.drawN n).2.refused = s.refused := by
  induction n generalizing s with
  | zero => rfl
  | succ n ih => exact ih s.draw.2
@[simp] theorem State.drawN_params (s : State) (n : Nat) :
    (s.drawN n).2.params = s.params := by
  induction n generalizing s with
  | zero => rfl
  | succ n ih => exact ih s.draw.2

-- start: only eng, faults
@[simp] theorem State.start_chan (s : State) (c : Ch) :
    (s.start c).chan = s.chan := by
  unfold State.start; simp only []; split <;> rfl
@[simp] theorem State.start_g (s : State) (c : Ch) :
    (s.start c).g = s.g := by
  unfold State.start; simp only []; split <;> rfl
@[simp] theorem State.start_gen (s : State) (c : Ch) :
    (s.start c).gen = s.gen := by
  unfold State.start; simp only []; split <;> rfl
@[simp] theorem State.start_queued (s : State) (c : Ch) :
    (s.start c).queued = s.queued := by
  unfold State.start; simp only []; split <;> rfl
@[simp] theorem State.start_ev (s : State) (c : Ch) :
    (s.start c).ev = s.ev := by
  unfold State.start; simp only []; split <;> rfl
@[simp] theorem State.start_sif (s : State) (c : Ch) :
    (s.start c).sif = s.sif := by
  unfold State.start; simp only []; split <;> rfl
@[simp] theorem State.start_ipu (s : State) (c : Ch) :
    (s.start c).ipu = s.ipu := by
  unfold State.start; simp only []; split <;> rfl
@[simp] theorem State.start_mem (s : State) (c : Ch) :
    (s.start c).mem = s.mem := by
  unfold State.start; simp only []; split <;> rfl
@[simp] theorem State.start_vtlb (s : State) (c : Ch) :
    (s.start c).vtlb = s.vtlb := by
  unfold State.start; simp only []; split <;> rfl
@[simp] theorem State.start_refused (s : State) (c : Ch) :
    (s.start c).refused = s.refused := by
  unfold State.start; simp only []; split <;> rfl
@[simp] theorem State.start_params (s : State) (c : Ch) :
    (s.start c).params = s.params := by
  unfold State.start; simp only []; split <;> rfl
@[simp] theorem State.start_env (s : State) (c : Ch) :
    (s.start c).env = s.env := by
  unfold State.start; simp only []; split <;> rfl

-- startChannel: only eng, faults
@[simp] theorem State.startChannel_chan (s : State) (c : Ch) :
    (s.startChannel c).chan = s.chan := by
  unfold State.startChannel; split
  · exact State.start_chan s c
  · split <;> rfl
@[simp] theorem State.startChannel_g (s : State) (c : Ch) :
    (s.startChannel c).g = s.g := by
  unfold State.startChannel; split
  · exact State.start_g s c
  · split <;> rfl
@[simp] theorem State.startChannel_gen (s : State) (c : Ch) :
    (s.startChannel c).gen = s.gen := by
  unfold State.startChannel; split
  · exact State.start_gen s c
  · split <;> rfl
@[simp] theorem State.startChannel_queued (s : State) (c : Ch) :
    (s.startChannel c).queued = s.queued := by
  unfold State.startChannel; split
  · exact State.start_queued s c
  · split <;> rfl
@[simp] theorem State.startChannel_ev (s : State) (c : Ch) :
    (s.startChannel c).ev = s.ev := by
  unfold State.startChannel; split
  · exact State.start_ev s c
  · split <;> rfl
@[simp] theorem State.startChannel_sif (s : State) (c : Ch) :
    (s.startChannel c).sif = s.sif := by
  unfold State.startChannel; split
  · exact State.start_sif s c
  · split <;> rfl
@[simp] theorem State.startChannel_ipu (s : State) (c : Ch) :
    (s.startChannel c).ipu = s.ipu := by
  unfold State.startChannel; split
  · exact State.start_ipu s c
  · split <;> rfl
@[simp] theorem State.startChannel_mem (s : State) (c : Ch) :
    (s.startChannel c).mem = s.mem := by
  unfold State.startChannel; split
  · exact State.start_mem s c
  · split <;> rfl
@[simp] theorem State.startChannel_vtlb (s : State) (c : Ch) :
    (s.startChannel c).vtlb = s.vtlb := by
  unfold State.startChannel; split
  · exact State.start_vtlb s c
  · split <;> rfl
@[simp] theorem State.startChannel_refused (s : State) (c : Ch) :
    (s.startChannel c).refused = s.refused := by
  unfold State.startChannel; split
  · exact State.start_refused s c
  · split <;> rfl
@[simp] theorem State.startChannel_params (s : State) (c : Ch) :
    (s.startChannel c).params = s.params := by
  unfold State.startChannel; split
  · exact State.start_params s c
  · split <;> rfl
@[simp] theorem State.startChannel_env (s : State) (c : Ch) :
    (s.startChannel c).env = s.env := by
  unfold State.startChannel; split
  · exact State.start_env s c
  · split <;> rfl

-- queueChannel: only eng, queued
@[simp] theorem State.queueChannel_chan (s : State) (c : Ch) :
    (s.queueChannel c).chan = s.chan := rfl
@[simp] theorem State.queueChannel_g (s : State) (c : Ch) :
    (s.queueChannel c).g = s.g := rfl
@[simp] theorem State.queueChannel_gen (s : State) (c : Ch) :
    (s.queueChannel c).gen = s.gen := rfl
@[simp] theorem State.queueChannel_ev (s : State) (c : Ch) :
    (s.queueChannel c).ev = s.ev := rfl
@[simp] theorem State.queueChannel_sif (s : State) (c : Ch) :
    (s.queueChannel c).sif = s.sif := rfl
@[simp] theorem State.queueChannel_ipu (s : State) (c : Ch) :
    (s.queueChannel c).ipu = s.ipu := rfl
@[simp] theorem State.queueChannel_mem (s : State) (c : Ch) :
    (s.queueChannel c).mem = s.mem := rfl
@[simp] theorem State.queueChannel_vtlb (s : State) (c : Ch) :
    (s.queueChannel c).vtlb = s.vtlb := rfl
@[simp] theorem State.queueChannel_faults (s : State) (c : Ch) :
    (s.queueChannel c).faults = s.faults := rfl
@[simp] theorem State.queueChannel_refused (s : State) (c : Ch) :
    (s.queueChannel c).refused = s.refused := rfl
@[simp] theorem State.queueChannel_params (s : State) (c : Ch) :
    (s.queueChannel c).params = s.params := rfl
@[simp] theorem State.queueChannel_env (s : State) (c : Ch) :
    (s.queueChannel c).env = s.env := rfl

-- drainOne: only eng, queued, faults
@[simp] theorem State.drainOne_chan (s : State) (c : Ch) :
    (s.drainOne c).chan = s.chan := by
  unfold State.drainOne; split
  · exact State.startChannel_chan _ c
  · rfl
@[simp] theorem State.drainOne_g (s : State) (c : Ch) :
    (s.drainOne c).g = s.g := by
  unfold State.drainOne; split
  · exact State.startChannel_g _ c
  · rfl
@[simp] theorem State.drainOne_gen (s : State) (c : Ch) :
    (s.drainOne c).gen = s.gen := by
  unfold State.drainOne; split
  · exact State.startChannel_gen _ c
  · rfl
@[simp] theorem State.drainOne_ev (s : State) (c : Ch) :
    (s.drainOne c).ev = s.ev := by
  unfold State.drainOne; split
  · exact State.startChannel_ev _ c
  · rfl
@[simp] theorem State.drainOne_sif (s : State) (c : Ch) :
    (s.drainOne c).sif = s.sif := by
  unfold State.drainOne; split
  · exact State.startChannel_sif _ c
  · rfl
@[simp] theorem State.drainOne_ipu (s : State) (c : Ch) :
    (s.drainOne c).ipu = s.ipu := by
  unfold State.drainOne; split
  · exact State.startChannel_ipu _ c
  · rfl
@[simp] theorem State.drainOne_mem (s : State) (c : Ch) :
    (s.drainOne c).mem = s.mem := by
  unfold State.drainOne; split
  · exact State.startChannel_mem _ c
  · rfl
@[simp] theorem State.drainOne_vtlb (s : State) (c : Ch) :
    (s.drainOne c).vtlb = s.vtlb := by
  unfold State.drainOne; split
  · exact State.startChannel_vtlb _ c
  · rfl
@[simp] theorem State.drainOne_refused (s : State) (c : Ch) :
    (s.drainOne c).refused = s.refused := by
  unfold State.drainOne; split
  · exact State.startChannel_refused _ c
  · rfl
@[simp] theorem State.drainOne_params (s : State) (c : Ch) :
    (s.drainOne c).params = s.params := by
  unfold State.drainOne; split
  · exact State.startChannel_params _ c
  · rfl
@[simp] theorem State.drainOne_env (s : State) (c : Ch) :
    (s.drainOne c).env = s.env := by
  unfold State.drainOne; split
  · exact State.startChannel_env _ c
  · rfl

/-- A drain over any list of channels. -/
theorem State.foldl_drainOne {α : Type} (p : State → α) (h : ∀ s c, p (State.drainOne s c) = p s) (cs : List Ch)
    (s : State) : p (cs.foldl State.drainOne s) = p s := by
  induction cs generalizing s with
  | nil => rfl
  | cons c cs ih => exact (ih (s.drainOne c)).trans (h s c)

-- drainQueued: only eng, queued, faults
@[simp] theorem State.drainQueued_chan (s : State) :
    s.drainQueued.chan = s.chan := State.foldl_drainOne State.chan (fun s c => State.drainOne_chan s c) _ s
@[simp] theorem State.drainQueued_g (s : State) :
    s.drainQueued.g = s.g := State.foldl_drainOne State.g (fun s c => State.drainOne_g s c) _ s
@[simp] theorem State.drainQueued_gen (s : State) :
    s.drainQueued.gen = s.gen := State.foldl_drainOne State.gen (fun s c => State.drainOne_gen s c) _ s
@[simp] theorem State.drainQueued_ev (s : State) :
    s.drainQueued.ev = s.ev := State.foldl_drainOne State.ev (fun s c => State.drainOne_ev s c) _ s
@[simp] theorem State.drainQueued_sif (s : State) :
    s.drainQueued.sif = s.sif := State.foldl_drainOne State.sif (fun s c => State.drainOne_sif s c) _ s
@[simp] theorem State.drainQueued_ipu (s : State) :
    s.drainQueued.ipu = s.ipu := State.foldl_drainOne State.ipu (fun s c => State.drainOne_ipu s c) _ s
@[simp] theorem State.drainQueued_mem (s : State) :
    s.drainQueued.mem = s.mem := State.foldl_drainOne State.mem (fun s c => State.drainOne_mem s c) _ s
@[simp] theorem State.drainQueued_vtlb (s : State) :
    s.drainQueued.vtlb = s.vtlb := State.foldl_drainOne State.vtlb (fun s c => State.drainOne_vtlb s c) _ s
@[simp] theorem State.drainQueued_refused (s : State) :
    s.drainQueued.refused = s.refused := State.foldl_drainOne State.refused (fun s c => State.drainOne_refused s c) _ s
@[simp] theorem State.drainQueued_params (s : State) :
    s.drainQueued.params = s.params := State.foldl_drainOne State.params (fun s c => State.drainOne_params s c) _ s
@[simp] theorem State.drainQueued_env (s : State) :
    s.drainQueued.env = s.env := State.foldl_drainOne State.env (fun s c => State.drainOne_env s c) _ s

-- dmaExec: only chan, eng, ev, queued, faults
@[simp] theorem State.dmaExec_g (s : State) (c : Ch) (v : Word) :
    (s.dmaExec c v).g = s.g := by
  unfold State.dmaExec; split
  · split <;> rfl
  · split
    · simp only []; split
      · exact State.startChannel_g _ c
      · rfl
    · rfl
@[simp] theorem State.dmaExec_gen (s : State) (c : Ch) (v : Word) :
    (s.dmaExec c v).gen = s.gen := by
  unfold State.dmaExec; split
  · split <;> rfl
  · split
    · simp only []; split
      · exact State.startChannel_gen _ c
      · rfl
    · rfl
@[simp] theorem State.dmaExec_sif (s : State) (c : Ch) (v : Word) :
    (s.dmaExec c v).sif = s.sif := by
  unfold State.dmaExec; split
  · split <;> rfl
  · split
    · simp only []; split
      · exact State.startChannel_sif _ c
      · rfl
    · rfl
@[simp] theorem State.dmaExec_ipu (s : State) (c : Ch) (v : Word) :
    (s.dmaExec c v).ipu = s.ipu := by
  unfold State.dmaExec; split
  · split <;> rfl
  · split
    · simp only []; split
      · exact State.startChannel_ipu _ c
      · rfl
    · rfl
@[simp] theorem State.dmaExec_mem (s : State) (c : Ch) (v : Word) :
    (s.dmaExec c v).mem = s.mem := by
  unfold State.dmaExec; split
  · split <;> rfl
  · split
    · simp only []; split
      · exact State.startChannel_mem _ c
      · rfl
    · rfl
@[simp] theorem State.dmaExec_vtlb (s : State) (c : Ch) (v : Word) :
    (s.dmaExec c v).vtlb = s.vtlb := by
  unfold State.dmaExec; split
  · split <;> rfl
  · split
    · simp only []; split
      · exact State.startChannel_vtlb _ c
      · rfl
    · rfl
@[simp] theorem State.dmaExec_refused (s : State) (c : Ch) (v : Word) :
    (s.dmaExec c v).refused = s.refused := by
  unfold State.dmaExec; split
  · split <;> rfl
  · split
    · simp only []; split
      · exact State.startChannel_refused _ c
      · rfl
    · rfl
@[simp] theorem State.dmaExec_params (s : State) (c : Ch) (v : Word) :
    (s.dmaExec c v).params = s.params := by
  unfold State.dmaExec; split
  · split <;> rfl
  · split
    · simp only []; split
      · exact State.startChannel_params _ c
      · rfl
    · rfl
@[simp] theorem State.dmaExec_env (s : State) (c : Ch) (v : Word) :
    (s.dmaExec c v).env = s.env := by
  unfold State.dmaExec; split
  · split <;> rfl
  · split
    · simp only []; split
      · exact State.startChannel_env _ c
      · rfl
    · rfl

-- chanRegWrite: only chan
@[simp] theorem State.chanRegWrite_g (s : State) (c : Ch) (r : ChanReg) (v : Word) :
    (s.chanRegWrite c r v).g = s.g := by
  unfold State.chanRegWrite; split <;> rfl
@[simp] theorem State.chanRegWrite_gen (s : State) (c : Ch) (r : ChanReg) (v : Word) :
    (s.chanRegWrite c r v).gen = s.gen := by
  unfold State.chanRegWrite; split <;> rfl
@[simp] theorem State.chanRegWrite_eng (s : State) (c : Ch) (r : ChanReg) (v : Word) :
    (s.chanRegWrite c r v).eng = s.eng := by
  unfold State.chanRegWrite; split <;> rfl
@[simp] theorem State.chanRegWrite_queued (s : State) (c : Ch) (r : ChanReg) (v : Word) :
    (s.chanRegWrite c r v).queued = s.queued := by
  unfold State.chanRegWrite; split <;> rfl
@[simp] theorem State.chanRegWrite_ev (s : State) (c : Ch) (r : ChanReg) (v : Word) :
    (s.chanRegWrite c r v).ev = s.ev := by
  unfold State.chanRegWrite; split <;> rfl
@[simp] theorem State.chanRegWrite_sif (s : State) (c : Ch) (r : ChanReg) (v : Word) :
    (s.chanRegWrite c r v).sif = s.sif := by
  unfold State.chanRegWrite; split <;> rfl
@[simp] theorem State.chanRegWrite_ipu (s : State) (c : Ch) (r : ChanReg) (v : Word) :
    (s.chanRegWrite c r v).ipu = s.ipu := by
  unfold State.chanRegWrite; split <;> rfl
@[simp] theorem State.chanRegWrite_mem (s : State) (c : Ch) (r : ChanReg) (v : Word) :
    (s.chanRegWrite c r v).mem = s.mem := by
  unfold State.chanRegWrite; split <;> rfl
@[simp] theorem State.chanRegWrite_vtlb (s : State) (c : Ch) (r : ChanReg) (v : Word) :
    (s.chanRegWrite c r v).vtlb = s.vtlb := by
  unfold State.chanRegWrite; split <;> rfl
@[simp] theorem State.chanRegWrite_faults (s : State) (c : Ch) (r : ChanReg) (v : Word) :
    (s.chanRegWrite c r v).faults = s.faults := by
  unfold State.chanRegWrite; split <;> rfl
@[simp] theorem State.chanRegWrite_refused (s : State) (c : Ch) (r : ChanReg) (v : Word) :
    (s.chanRegWrite c r v).refused = s.refused := by
  unfold State.chanRegWrite; split <;> rfl
@[simp] theorem State.chanRegWrite_params (s : State) (c : Ch) (r : ChanReg) (v : Word) :
    (s.chanRegWrite c r v).params = s.params := by
  unfold State.chanRegWrite; split <;> rfl
@[simp] theorem State.chanRegWrite_env (s : State) (c : Ch) (r : ChanReg) (v : Word) :
    (s.chanRegWrite c r v).env = s.env := by
  unfold State.chanRegWrite; split <;> rfl

-- chanWrite: only chan, eng, ev, queued, faults
@[simp] theorem State.chanWrite_g (s : State) (c : Ch) (r : ChanReg) (v : Word) :
    (s.chanWrite c r v).g = s.g := by
  cases r
  · exact State.dmaExec_g s c v
  all_goals exact State.chanRegWrite_g s c _ v
@[simp] theorem State.chanWrite_gen (s : State) (c : Ch) (r : ChanReg) (v : Word) :
    (s.chanWrite c r v).gen = s.gen := by
  cases r
  · exact State.dmaExec_gen s c v
  all_goals exact State.chanRegWrite_gen s c _ v
@[simp] theorem State.chanWrite_sif (s : State) (c : Ch) (r : ChanReg) (v : Word) :
    (s.chanWrite c r v).sif = s.sif := by
  cases r
  · exact State.dmaExec_sif s c v
  all_goals exact State.chanRegWrite_sif s c _ v
@[simp] theorem State.chanWrite_ipu (s : State) (c : Ch) (r : ChanReg) (v : Word) :
    (s.chanWrite c r v).ipu = s.ipu := by
  cases r
  · exact State.dmaExec_ipu s c v
  all_goals exact State.chanRegWrite_ipu s c _ v
@[simp] theorem State.chanWrite_mem (s : State) (c : Ch) (r : ChanReg) (v : Word) :
    (s.chanWrite c r v).mem = s.mem := by
  cases r
  · exact State.dmaExec_mem s c v
  all_goals exact State.chanRegWrite_mem s c _ v
@[simp] theorem State.chanWrite_vtlb (s : State) (c : Ch) (r : ChanReg) (v : Word) :
    (s.chanWrite c r v).vtlb = s.vtlb := by
  cases r
  · exact State.dmaExec_vtlb s c v
  all_goals exact State.chanRegWrite_vtlb s c _ v
@[simp] theorem State.chanWrite_refused (s : State) (c : Ch) (r : ChanReg) (v : Word) :
    (s.chanWrite c r v).refused = s.refused := by
  cases r
  · exact State.dmaExec_refused s c v
  all_goals exact State.chanRegWrite_refused s c _ v
@[simp] theorem State.chanWrite_params (s : State) (c : Ch) (r : ChanReg) (v : Word) :
    (s.chanWrite c r v).params = s.params := by
  cases r
  · exact State.dmaExec_params s c v
  all_goals exact State.chanRegWrite_params s c _ v
@[simp] theorem State.chanWrite_env (s : State) (c : Ch) (r : ChanReg) (v : Word) :
    (s.chanWrite c r v).env = s.env := by
  cases r
  · exact State.dmaExec_env s c v
  all_goals exact State.chanRegWrite_env s c _ v

-- ctrlWrite: only g, eng, queued, faults
@[simp] theorem State.ctrlWrite_chan (s : State) (v : Word) :
    (s.ctrlWrite v).chan = s.chan := by
  unfold State.ctrlWrite; simp only []; split
  · exact State.drainQueued_chan _
  · rfl
@[simp] theorem State.ctrlWrite_gen (s : State) (v : Word) :
    (s.ctrlWrite v).gen = s.gen := by
  unfold State.ctrlWrite; simp only []; split
  · exact State.drainQueued_gen _
  · rfl
@[simp] theorem State.ctrlWrite_ev (s : State) (v : Word) :
    (s.ctrlWrite v).ev = s.ev := by
  unfold State.ctrlWrite; simp only []; split
  · exact State.drainQueued_ev _
  · rfl
@[simp] theorem State.ctrlWrite_sif (s : State) (v : Word) :
    (s.ctrlWrite v).sif = s.sif := by
  unfold State.ctrlWrite; simp only []; split
  · exact State.drainQueued_sif _
  · rfl
@[simp] theorem State.ctrlWrite_ipu (s : State) (v : Word) :
    (s.ctrlWrite v).ipu = s.ipu := by
  unfold State.ctrlWrite; simp only []; split
  · exact State.drainQueued_ipu _
  · rfl
@[simp] theorem State.ctrlWrite_mem (s : State) (v : Word) :
    (s.ctrlWrite v).mem = s.mem := by
  unfold State.ctrlWrite; simp only []; split
  · exact State.drainQueued_mem _
  · rfl
@[simp] theorem State.ctrlWrite_vtlb (s : State) (v : Word) :
    (s.ctrlWrite v).vtlb = s.vtlb := by
  unfold State.ctrlWrite; simp only []; split
  · exact State.drainQueued_vtlb _
  · rfl
@[simp] theorem State.ctrlWrite_refused (s : State) (v : Word) :
    (s.ctrlWrite v).refused = s.refused := by
  unfold State.ctrlWrite; simp only []; split
  · exact State.drainQueued_refused _
  · rfl
@[simp] theorem State.ctrlWrite_params (s : State) (v : Word) :
    (s.ctrlWrite v).params = s.params := by
  unfold State.ctrlWrite; simp only []; split
  · exact State.drainQueued_params _
  · rfl
@[simp] theorem State.ctrlWrite_env (s : State) (v : Word) :
    (s.ctrlWrite v).env = s.env := by
  unfold State.ctrlWrite; simp only []; split
  · exact State.drainQueued_env _
  · rfl

-- enablewWrite: only g, eng, queued, faults
@[simp] theorem State.enablewWrite_chan (s : State) (v : Word) :
    (s.enablewWrite v).chan = s.chan := by
  unfold State.enablewWrite; simp only []; split
  · exact State.drainQueued_chan _
  · rfl
@[simp] theorem State.enablewWrite_gen (s : State) (v : Word) :
    (s.enablewWrite v).gen = s.gen := by
  unfold State.enablewWrite; simp only []; split
  · exact State.drainQueued_gen _
  · rfl
@[simp] theorem State.enablewWrite_ev (s : State) (v : Word) :
    (s.enablewWrite v).ev = s.ev := by
  unfold State.enablewWrite; simp only []; split
  · exact State.drainQueued_ev _
  · rfl
@[simp] theorem State.enablewWrite_sif (s : State) (v : Word) :
    (s.enablewWrite v).sif = s.sif := by
  unfold State.enablewWrite; simp only []; split
  · exact State.drainQueued_sif _
  · rfl
@[simp] theorem State.enablewWrite_ipu (s : State) (v : Word) :
    (s.enablewWrite v).ipu = s.ipu := by
  unfold State.enablewWrite; simp only []; split
  · exact State.drainQueued_ipu _
  · rfl
@[simp] theorem State.enablewWrite_mem (s : State) (v : Word) :
    (s.enablewWrite v).mem = s.mem := by
  unfold State.enablewWrite; simp only []; split
  · exact State.drainQueued_mem _
  · rfl
@[simp] theorem State.enablewWrite_vtlb (s : State) (v : Word) :
    (s.enablewWrite v).vtlb = s.vtlb := by
  unfold State.enablewWrite; simp only []; split
  · exact State.drainQueued_vtlb _
  · rfl
@[simp] theorem State.enablewWrite_refused (s : State) (v : Word) :
    (s.enablewWrite v).refused = s.refused := by
  unfold State.enablewWrite; simp only []; split
  · exact State.drainQueued_refused _
  · rfl
@[simp] theorem State.enablewWrite_params (s : State) (v : Word) :
    (s.enablewWrite v).params = s.params := by
  unfold State.enablewWrite; simp only []; split
  · exact State.drainQueued_params _
  · rfl
@[simp] theorem State.enablewWrite_env (s : State) (v : Word) :
    (s.enablewWrite v).env = s.env := by
  unfold State.enablewWrite; simp only []; split
  · exact State.drainQueued_env _
  · rfl

-- statWrite: only g
@[simp] theorem State.statWrite_chan (s : State) (v : Word) :
    (s.statWrite v).chan = s.chan := rfl
@[simp] theorem State.statWrite_gen (s : State) (v : Word) :
    (s.statWrite v).gen = s.gen := rfl
@[simp] theorem State.statWrite_eng (s : State) (v : Word) :
    (s.statWrite v).eng = s.eng := rfl
@[simp] theorem State.statWrite_queued (s : State) (v : Word) :
    (s.statWrite v).queued = s.queued := rfl
@[simp] theorem State.statWrite_ev (s : State) (v : Word) :
    (s.statWrite v).ev = s.ev := rfl
@[simp] theorem State.statWrite_sif (s : State) (v : Word) :
    (s.statWrite v).sif = s.sif := rfl
@[simp] theorem State.statWrite_ipu (s : State) (v : Word) :
    (s.statWrite v).ipu = s.ipu := rfl
@[simp] theorem State.statWrite_mem (s : State) (v : Word) :
    (s.statWrite v).mem = s.mem := rfl
@[simp] theorem State.statWrite_vtlb (s : State) (v : Word) :
    (s.statWrite v).vtlb = s.vtlb := rfl
@[simp] theorem State.statWrite_faults (s : State) (v : Word) :
    (s.statWrite v).faults = s.faults := rfl
@[simp] theorem State.statWrite_refused (s : State) (v : Word) :
    (s.statWrite v).refused = s.refused := rfl
@[simp] theorem State.statWrite_params (s : State) (v : Word) :
    (s.statWrite v).params = s.params := rfl
@[simp] theorem State.statWrite_env (s : State) (v : Word) :
    (s.statWrite v).env = s.env := rfl

-- globalWrite: only g, eng, queued, faults
@[simp] theorem State.globalWrite_chan (s : State) (r : GlobalReg) (v : Word) :
    (s.globalWrite r v).chan = s.chan := by
  cases r <;> first | rfl | exact State.ctrlWrite_chan s v | exact State.enablewWrite_chan s v
@[simp] theorem State.globalWrite_gen (s : State) (r : GlobalReg) (v : Word) :
    (s.globalWrite r v).gen = s.gen := by
  cases r <;> first | rfl | exact State.ctrlWrite_gen s v | exact State.enablewWrite_gen s v
@[simp] theorem State.globalWrite_ev (s : State) (r : GlobalReg) (v : Word) :
    (s.globalWrite r v).ev = s.ev := by
  cases r <;> first | rfl | exact State.ctrlWrite_ev s v | exact State.enablewWrite_ev s v
@[simp] theorem State.globalWrite_sif (s : State) (r : GlobalReg) (v : Word) :
    (s.globalWrite r v).sif = s.sif := by
  cases r <;> first | rfl | exact State.ctrlWrite_sif s v | exact State.enablewWrite_sif s v
@[simp] theorem State.globalWrite_ipu (s : State) (r : GlobalReg) (v : Word) :
    (s.globalWrite r v).ipu = s.ipu := by
  cases r <;> first | rfl | exact State.ctrlWrite_ipu s v | exact State.enablewWrite_ipu s v
@[simp] theorem State.globalWrite_mem (s : State) (r : GlobalReg) (v : Word) :
    (s.globalWrite r v).mem = s.mem := by
  cases r <;> first | rfl | exact State.ctrlWrite_mem s v | exact State.enablewWrite_mem s v
@[simp] theorem State.globalWrite_vtlb (s : State) (r : GlobalReg) (v : Word) :
    (s.globalWrite r v).vtlb = s.vtlb := by
  cases r <;> first | rfl | exact State.ctrlWrite_vtlb s v | exact State.enablewWrite_vtlb s v
@[simp] theorem State.globalWrite_refused (s : State) (r : GlobalReg) (v : Word) :
    (s.globalWrite r v).refused = s.refused := by
  cases r <;> first | rfl | exact State.ctrlWrite_refused s v | exact State.enablewWrite_refused s v
@[simp] theorem State.globalWrite_params (s : State) (r : GlobalReg) (v : Word) :
    (s.globalWrite r v).params = s.params := by
  cases r <;> first | rfl | exact State.ctrlWrite_params s v | exact State.enablewWrite_params s v
@[simp] theorem State.globalWrite_env (s : State) (r : GlobalReg) (v : Word) :
    (s.globalWrite r v).env = s.env := by
  cases r <;> first | rfl | exact State.ctrlWrite_env s v | exact State.enablewWrite_env s v

-- stallEnter: only g, eng
@[simp] theorem State.stallEnter_chan (s : State) (c : Ch) :
    (s.stallEnter c).chan = s.chan := rfl
@[simp] theorem State.stallEnter_gen (s : State) (c : Ch) :
    (s.stallEnter c).gen = s.gen := rfl
@[simp] theorem State.stallEnter_queued (s : State) (c : Ch) :
    (s.stallEnter c).queued = s.queued := rfl
@[simp] theorem State.stallEnter_ev (s : State) (c : Ch) :
    (s.stallEnter c).ev = s.ev := rfl
@[simp] theorem State.stallEnter_sif (s : State) (c : Ch) :
    (s.stallEnter c).sif = s.sif := rfl
@[simp] theorem State.stallEnter_ipu (s : State) (c : Ch) :
    (s.stallEnter c).ipu = s.ipu := rfl
@[simp] theorem State.stallEnter_mem (s : State) (c : Ch) :
    (s.stallEnter c).mem = s.mem := rfl
@[simp] theorem State.stallEnter_vtlb (s : State) (c : Ch) :
    (s.stallEnter c).vtlb = s.vtlb := rfl
@[simp] theorem State.stallEnter_faults (s : State) (c : Ch) :
    (s.stallEnter c).faults = s.faults := rfl
@[simp] theorem State.stallEnter_refused (s : State) (c : Ch) :
    (s.stallEnter c).refused = s.refused := rfl
@[simp] theorem State.stallEnter_params (s : State) (c : Ch) :
    (s.stallEnter c).params = s.params := rfl
@[simp] theorem State.stallEnter_env (s : State) (c : Ch) :
    (s.stallEnter c).env = s.env := rfl

-- stallSrcUpdate: only g
@[simp] theorem State.stallSrcUpdate_chan (s : State) (c : Ch) :
    (s.stallSrcUpdate c).chan = s.chan := by
  unfold State.stallSrcUpdate; simp only []; split <;> rfl
@[simp] theorem State.stallSrcUpdate_gen (s : State) (c : Ch) :
    (s.stallSrcUpdate c).gen = s.gen := by
  unfold State.stallSrcUpdate; simp only []; split <;> rfl
@[simp] theorem State.stallSrcUpdate_eng (s : State) (c : Ch) :
    (s.stallSrcUpdate c).eng = s.eng := by
  unfold State.stallSrcUpdate; simp only []; split <;> rfl
@[simp] theorem State.stallSrcUpdate_queued (s : State) (c : Ch) :
    (s.stallSrcUpdate c).queued = s.queued := by
  unfold State.stallSrcUpdate; simp only []; split <;> rfl
@[simp] theorem State.stallSrcUpdate_ev (s : State) (c : Ch) :
    (s.stallSrcUpdate c).ev = s.ev := by
  unfold State.stallSrcUpdate; simp only []; split <;> rfl
@[simp] theorem State.stallSrcUpdate_sif (s : State) (c : Ch) :
    (s.stallSrcUpdate c).sif = s.sif := by
  unfold State.stallSrcUpdate; simp only []; split <;> rfl
@[simp] theorem State.stallSrcUpdate_ipu (s : State) (c : Ch) :
    (s.stallSrcUpdate c).ipu = s.ipu := by
  unfold State.stallSrcUpdate; simp only []; split <;> rfl
@[simp] theorem State.stallSrcUpdate_mem (s : State) (c : Ch) :
    (s.stallSrcUpdate c).mem = s.mem := by
  unfold State.stallSrcUpdate; simp only []; split <;> rfl
@[simp] theorem State.stallSrcUpdate_vtlb (s : State) (c : Ch) :
    (s.stallSrcUpdate c).vtlb = s.vtlb := by
  unfold State.stallSrcUpdate; simp only []; split <;> rfl
@[simp] theorem State.stallSrcUpdate_faults (s : State) (c : Ch) :
    (s.stallSrcUpdate c).faults = s.faults := by
  unfold State.stallSrcUpdate; simp only []; split <;> rfl
@[simp] theorem State.stallSrcUpdate_refused (s : State) (c : Ch) :
    (s.stallSrcUpdate c).refused = s.refused := by
  unfold State.stallSrcUpdate; simp only []; split <;> rfl
@[simp] theorem State.stallSrcUpdate_params (s : State) (c : Ch) :
    (s.stallSrcUpdate c).params = s.params := by
  unfold State.stallSrcUpdate; simp only []; split <;> rfl
@[simp] theorem State.stallSrcUpdate_env (s : State) (c : Ch) :
    (s.stallSrcUpdate c).env = s.env := by
  unfold State.stallSrcUpdate; simp only []; split <;> rfl

-- tteAction: only chan, mem, sif, faults
@[simp] theorem State.tteAction_g (s : State) (c : SrcCh) (q : Quad) :
    (s.tteAction c q).g = s.g := by
  unfold State.tteAction; split
  · cases c <;> first | rfl | exact State.sifPush_g s _ _
  · rfl
@[simp] theorem State.tteAction_gen (s : State) (c : SrcCh) (q : Quad) :
    (s.tteAction c q).gen = s.gen := by
  unfold State.tteAction; split
  · cases c <;> first | rfl | exact State.sifPush_gen s _ _
  · rfl
@[simp] theorem State.tteAction_eng (s : State) (c : SrcCh) (q : Quad) :
    (s.tteAction c q).eng = s.eng := by
  unfold State.tteAction; split
  · cases c <;> first | rfl | exact State.sifPush_eng s _ _
  · rfl
@[simp] theorem State.tteAction_queued (s : State) (c : SrcCh) (q : Quad) :
    (s.tteAction c q).queued = s.queued := by
  unfold State.tteAction; split
  · cases c <;> first | rfl | exact State.sifPush_queued s _ _
  · rfl
@[simp] theorem State.tteAction_ev (s : State) (c : SrcCh) (q : Quad) :
    (s.tteAction c q).ev = s.ev := by
  unfold State.tteAction; split
  · cases c <;> first | rfl | exact State.sifPush_ev s _ _
  · rfl
@[simp] theorem State.tteAction_ipu (s : State) (c : SrcCh) (q : Quad) :
    (s.tteAction c q).ipu = s.ipu := by
  unfold State.tteAction; split
  · cases c <;> first | rfl | exact State.sifPush_ipu s _ _
  · rfl
@[simp] theorem State.tteAction_vtlb (s : State) (c : SrcCh) (q : Quad) :
    (s.tteAction c q).vtlb = s.vtlb := by
  unfold State.tteAction; split
  · cases c <;> first | rfl | exact State.sifPush_vtlb s _ _
  · rfl
@[simp] theorem State.tteAction_refused (s : State) (c : SrcCh) (q : Quad) :
    (s.tteAction c q).refused = s.refused := by
  unfold State.tteAction; split
  · cases c <;> first | rfl | exact State.sifPush_refused s _ _
  · rfl
@[simp] theorem State.tteAction_params (s : State) (c : SrcCh) (q : Quad) :
    (s.tteAction c q).params = s.params := by
  unfold State.tteAction; split
  · cases c <;> first | rfl | exact State.sifPush_params s _ _
  · rfl
@[simp] theorem State.tteAction_env (s : State) (c : SrcCh) (q : Quad) :
    (s.tteAction c q).env = s.env := by
  unfold State.tteAction; split
  · cases c <;> first | rfl | exact State.sifPush_env s _ _
  · rfl

-- takeDstTag: only chan, eng
@[simp] theorem State.takeDstTag_g (s : State) (c : DstCh) (id : BitVec 3) (t : Tag) (last cnts : Bool) :
    (s.takeDstTag c id t last cnts).g = s.g := rfl
@[simp] theorem State.takeDstTag_gen (s : State) (c : DstCh) (id : BitVec 3) (t : Tag) (last cnts : Bool) :
    (s.takeDstTag c id t last cnts).gen = s.gen := rfl
@[simp] theorem State.takeDstTag_queued (s : State) (c : DstCh) (id : BitVec 3) (t : Tag) (last cnts : Bool) :
    (s.takeDstTag c id t last cnts).queued = s.queued := rfl
@[simp] theorem State.takeDstTag_ev (s : State) (c : DstCh) (id : BitVec 3) (t : Tag) (last cnts : Bool) :
    (s.takeDstTag c id t last cnts).ev = s.ev := rfl
@[simp] theorem State.takeDstTag_sif (s : State) (c : DstCh) (id : BitVec 3) (t : Tag) (last cnts : Bool) :
    (s.takeDstTag c id t last cnts).sif = s.sif := rfl
@[simp] theorem State.takeDstTag_ipu (s : State) (c : DstCh) (id : BitVec 3) (t : Tag) (last cnts : Bool) :
    (s.takeDstTag c id t last cnts).ipu = s.ipu := rfl
@[simp] theorem State.takeDstTag_mem (s : State) (c : DstCh) (id : BitVec 3) (t : Tag) (last cnts : Bool) :
    (s.takeDstTag c id t last cnts).mem = s.mem := rfl
@[simp] theorem State.takeDstTag_vtlb (s : State) (c : DstCh) (id : BitVec 3) (t : Tag) (last cnts : Bool) :
    (s.takeDstTag c id t last cnts).vtlb = s.vtlb := rfl
@[simp] theorem State.takeDstTag_faults (s : State) (c : DstCh) (id : BitVec 3) (t : Tag) (last cnts : Bool) :
    (s.takeDstTag c id t last cnts).faults = s.faults := rfl
@[simp] theorem State.takeDstTag_refused (s : State) (c : DstCh) (id : BitVec 3) (t : Tag) (last cnts : Bool) :
    (s.takeDstTag c id t last cnts).refused = s.refused := rfl
@[simp] theorem State.takeDstTag_params (s : State) (c : DstCh) (id : BitVec 3) (t : Tag) (last cnts : Bool) :
    (s.takeDstTag c id t last cnts).params = s.params := rfl
@[simp] theorem State.takeDstTag_env (s : State) (c : DstCh) (id : BitVec 3) (t : Tag) (last cnts : Bool) :
    (s.takeDstTag c id t last cnts).env = s.env := rfl

-- iopWrite: only mem
@[simp] theorem State.iopWrite_chan (s : State) (a v : Word) :
    (s.iopWrite a v).chan = s.chan := rfl
@[simp] theorem State.iopWrite_g (s : State) (a v : Word) :
    (s.iopWrite a v).g = s.g := rfl
@[simp] theorem State.iopWrite_gen (s : State) (a v : Word) :
    (s.iopWrite a v).gen = s.gen := rfl
@[simp] theorem State.iopWrite_eng (s : State) (a v : Word) :
    (s.iopWrite a v).eng = s.eng := rfl
@[simp] theorem State.iopWrite_queued (s : State) (a v : Word) :
    (s.iopWrite a v).queued = s.queued := rfl
@[simp] theorem State.iopWrite_ev (s : State) (a v : Word) :
    (s.iopWrite a v).ev = s.ev := rfl
@[simp] theorem State.iopWrite_sif (s : State) (a v : Word) :
    (s.iopWrite a v).sif = s.sif := rfl
@[simp] theorem State.iopWrite_ipu (s : State) (a v : Word) :
    (s.iopWrite a v).ipu = s.ipu := rfl
@[simp] theorem State.iopWrite_vtlb (s : State) (a v : Word) :
    (s.iopWrite a v).vtlb = s.vtlb := rfl
@[simp] theorem State.iopWrite_faults (s : State) (a v : Word) :
    (s.iopWrite a v).faults = s.faults := rfl
@[simp] theorem State.iopWrite_refused (s : State) (a v : Word) :
    (s.iopWrite a v).refused = s.refused := rfl
@[simp] theorem State.iopWrite_params (s : State) (a v : Word) :
    (s.iopWrite a v).params = s.params := rfl
@[simp] theorem State.iopWrite_env (s : State) (a v : Word) :
    (s.iopWrite a v).env = s.env := rfl

-- iopWriteN: only mem
@[simp] theorem State.iopWriteN_chan (s : State) (a : Word) (ws : List Word) :
    (s.iopWriteN a ws).chan = s.chan := by
  induction ws generalizing s a with
  | nil => rfl
  | cons w ws ih => exact ih (s.iopWrite a w) (a + 4)
@[simp] theorem State.iopWriteN_g (s : State) (a : Word) (ws : List Word) :
    (s.iopWriteN a ws).g = s.g := by
  induction ws generalizing s a with
  | nil => rfl
  | cons w ws ih => exact ih (s.iopWrite a w) (a + 4)
@[simp] theorem State.iopWriteN_gen (s : State) (a : Word) (ws : List Word) :
    (s.iopWriteN a ws).gen = s.gen := by
  induction ws generalizing s a with
  | nil => rfl
  | cons w ws ih => exact ih (s.iopWrite a w) (a + 4)
@[simp] theorem State.iopWriteN_eng (s : State) (a : Word) (ws : List Word) :
    (s.iopWriteN a ws).eng = s.eng := by
  induction ws generalizing s a with
  | nil => rfl
  | cons w ws ih => exact ih (s.iopWrite a w) (a + 4)
@[simp] theorem State.iopWriteN_queued (s : State) (a : Word) (ws : List Word) :
    (s.iopWriteN a ws).queued = s.queued := by
  induction ws generalizing s a with
  | nil => rfl
  | cons w ws ih => exact ih (s.iopWrite a w) (a + 4)
@[simp] theorem State.iopWriteN_ev (s : State) (a : Word) (ws : List Word) :
    (s.iopWriteN a ws).ev = s.ev := by
  induction ws generalizing s a with
  | nil => rfl
  | cons w ws ih => exact ih (s.iopWrite a w) (a + 4)
@[simp] theorem State.iopWriteN_sif (s : State) (a : Word) (ws : List Word) :
    (s.iopWriteN a ws).sif = s.sif := by
  induction ws generalizing s a with
  | nil => rfl
  | cons w ws ih => exact ih (s.iopWrite a w) (a + 4)
@[simp] theorem State.iopWriteN_ipu (s : State) (a : Word) (ws : List Word) :
    (s.iopWriteN a ws).ipu = s.ipu := by
  induction ws generalizing s a with
  | nil => rfl
  | cons w ws ih => exact ih (s.iopWrite a w) (a + 4)
@[simp] theorem State.iopWriteN_vtlb (s : State) (a : Word) (ws : List Word) :
    (s.iopWriteN a ws).vtlb = s.vtlb := by
  induction ws generalizing s a with
  | nil => rfl
  | cons w ws ih => exact ih (s.iopWrite a w) (a + 4)
@[simp] theorem State.iopWriteN_faults (s : State) (a : Word) (ws : List Word) :
    (s.iopWriteN a ws).faults = s.faults := by
  induction ws generalizing s a with
  | nil => rfl
  | cons w ws ih => exact ih (s.iopWrite a w) (a + 4)
@[simp] theorem State.iopWriteN_refused (s : State) (a : Word) (ws : List Word) :
    (s.iopWriteN a ws).refused = s.refused := by
  induction ws generalizing s a with
  | nil => rfl
  | cons w ws ih => exact ih (s.iopWrite a w) (a + 4)
@[simp] theorem State.iopWriteN_params (s : State) (a : Word) (ws : List Word) :
    (s.iopWriteN a ws).params = s.params := by
  induction ws generalizing s a with
  | nil => rfl
  | cons w ws ih => exact ih (s.iopWrite a w) (a + 4)
@[simp] theorem State.iopWriteN_env (s : State) (a : Word) (ws : List Word) :
    (s.iopWriteN a ws).env = s.env := by
  induction ws generalizing s a with
  | nil => rfl
  | cons w ws ih => exact ih (s.iopWrite a w) (a + 4)

-- addIopCycles: only sif
@[simp] theorem State.addIopCycles_chan (s : State) (f : Sif) (n : Nat) :
    (s.addIopCycles f n).chan = s.chan := rfl
@[simp] theorem State.addIopCycles_g (s : State) (f : Sif) (n : Nat) :
    (s.addIopCycles f n).g = s.g := rfl
@[simp] theorem State.addIopCycles_gen (s : State) (f : Sif) (n : Nat) :
    (s.addIopCycles f n).gen = s.gen := rfl
@[simp] theorem State.addIopCycles_eng (s : State) (f : Sif) (n : Nat) :
    (s.addIopCycles f n).eng = s.eng := rfl
@[simp] theorem State.addIopCycles_queued (s : State) (f : Sif) (n : Nat) :
    (s.addIopCycles f n).queued = s.queued := rfl
@[simp] theorem State.addIopCycles_ev (s : State) (f : Sif) (n : Nat) :
    (s.addIopCycles f n).ev = s.ev := rfl
@[simp] theorem State.addIopCycles_ipu (s : State) (f : Sif) (n : Nat) :
    (s.addIopCycles f n).ipu = s.ipu := rfl
@[simp] theorem State.addIopCycles_mem (s : State) (f : Sif) (n : Nat) :
    (s.addIopCycles f n).mem = s.mem := rfl
@[simp] theorem State.addIopCycles_vtlb (s : State) (f : Sif) (n : Nat) :
    (s.addIopCycles f n).vtlb = s.vtlb := rfl
@[simp] theorem State.addIopCycles_faults (s : State) (f : Sif) (n : Nat) :
    (s.addIopCycles f n).faults = s.faults := rfl
@[simp] theorem State.addIopCycles_refused (s : State) (f : Sif) (n : Nat) :
    (s.addIopCycles f n).refused = s.refused := rfl
@[simp] theorem State.addIopCycles_params (s : State) (f : Sif) (n : Nat) :
    (s.addIopCycles f n).params = s.params := rfl
@[simp] theorem State.addIopCycles_env (s : State) (f : Sif) (n : Nat) :
    (s.addIopCycles f n).env = s.env := rfl

-- loadIopTag: only sif
@[simp] theorem State.loadIopTag_chan (s : State) (f : Sif) (t : IopTag) :
    (s.loadIopTag f t).chan = s.chan := rfl
@[simp] theorem State.loadIopTag_g (s : State) (f : Sif) (t : IopTag) :
    (s.loadIopTag f t).g = s.g := rfl
@[simp] theorem State.loadIopTag_gen (s : State) (f : Sif) (t : IopTag) :
    (s.loadIopTag f t).gen = s.gen := rfl
@[simp] theorem State.loadIopTag_eng (s : State) (f : Sif) (t : IopTag) :
    (s.loadIopTag f t).eng = s.eng := rfl
@[simp] theorem State.loadIopTag_queued (s : State) (f : Sif) (t : IopTag) :
    (s.loadIopTag f t).queued = s.queued := rfl
@[simp] theorem State.loadIopTag_ev (s : State) (f : Sif) (t : IopTag) :
    (s.loadIopTag f t).ev = s.ev := rfl
@[simp] theorem State.loadIopTag_ipu (s : State) (f : Sif) (t : IopTag) :
    (s.loadIopTag f t).ipu = s.ipu := rfl
@[simp] theorem State.loadIopTag_mem (s : State) (f : Sif) (t : IopTag) :
    (s.loadIopTag f t).mem = s.mem := rfl
@[simp] theorem State.loadIopTag_vtlb (s : State) (f : Sif) (t : IopTag) :
    (s.loadIopTag f t).vtlb = s.vtlb := rfl
@[simp] theorem State.loadIopTag_faults (s : State) (f : Sif) (t : IopTag) :
    (s.loadIopTag f t).faults = s.faults := rfl
@[simp] theorem State.loadIopTag_refused (s : State) (f : Sif) (t : IopTag) :
    (s.loadIopTag f t).refused = s.refused := rfl
@[simp] theorem State.loadIopTag_params (s : State) (f : Sif) (t : IopTag) :
    (s.loadIopTag f t).params = s.params := rfl
@[simp] theorem State.loadIopTag_env (s : State) (f : Sif) (t : IopTag) :
    (s.loadIopTag f t).env = s.env := rfl

-- iopPushData: only sif, faults
@[simp] theorem State.iopPushData_chan (s : State) (f : Sif) (n : Nat) :
    (s.iopPushData f n).chan = s.chan := State.sifPush_chan s f _
@[simp] theorem State.iopPushData_g (s : State) (f : Sif) (n : Nat) :
    (s.iopPushData f n).g = s.g := State.sifPush_g s f _
@[simp] theorem State.iopPushData_gen (s : State) (f : Sif) (n : Nat) :
    (s.iopPushData f n).gen = s.gen := State.sifPush_gen s f _
@[simp] theorem State.iopPushData_eng (s : State) (f : Sif) (n : Nat) :
    (s.iopPushData f n).eng = s.eng := State.sifPush_eng s f _
@[simp] theorem State.iopPushData_queued (s : State) (f : Sif) (n : Nat) :
    (s.iopPushData f n).queued = s.queued := State.sifPush_queued s f _
@[simp] theorem State.iopPushData_ev (s : State) (f : Sif) (n : Nat) :
    (s.iopPushData f n).ev = s.ev := State.sifPush_ev s f _
@[simp] theorem State.iopPushData_ipu (s : State) (f : Sif) (n : Nat) :
    (s.iopPushData f n).ipu = s.ipu := State.sifPush_ipu s f _
@[simp] theorem State.iopPushData_mem (s : State) (f : Sif) (n : Nat) :
    (s.iopPushData f n).mem = s.mem := State.sifPush_mem s f _
@[simp] theorem State.iopPushData_vtlb (s : State) (f : Sif) (n : Nat) :
    (s.iopPushData f n).vtlb = s.vtlb := State.sifPush_vtlb s f _
@[simp] theorem State.iopPushData_refused (s : State) (f : Sif) (n : Nat) :
    (s.iopPushData f n).refused = s.refused := State.sifPush_refused s f _
@[simp] theorem State.iopPushData_params (s : State) (f : Sif) (n : Nat) :
    (s.iopPushData f n).params = s.params := State.sifPush_params s f _
@[simp] theorem State.iopPushData_env (s : State) (f : Sif) (n : Nat) :
    (s.iopPushData f n).env = s.env := State.sifPush_env s f _

-- iopPopData: only sif, mem, faults
@[simp] theorem State.iopPopData_chan (s : State) (f : Sif) (n : Nat) :
    (s.iopPopData f n).chan = s.chan := (State.iopWriteN_chan _ _ _).trans (State.sifPop_chan s f n)
@[simp] theorem State.iopPopData_g (s : State) (f : Sif) (n : Nat) :
    (s.iopPopData f n).g = s.g := (State.iopWriteN_g _ _ _).trans (State.sifPop_g s f n)
@[simp] theorem State.iopPopData_gen (s : State) (f : Sif) (n : Nat) :
    (s.iopPopData f n).gen = s.gen := (State.iopWriteN_gen _ _ _).trans (State.sifPop_gen s f n)
@[simp] theorem State.iopPopData_eng (s : State) (f : Sif) (n : Nat) :
    (s.iopPopData f n).eng = s.eng := (State.iopWriteN_eng _ _ _).trans (State.sifPop_eng s f n)
@[simp] theorem State.iopPopData_queued (s : State) (f : Sif) (n : Nat) :
    (s.iopPopData f n).queued = s.queued := (State.iopWriteN_queued _ _ _).trans (State.sifPop_queued s f n)
@[simp] theorem State.iopPopData_ev (s : State) (f : Sif) (n : Nat) :
    (s.iopPopData f n).ev = s.ev := (State.iopWriteN_ev _ _ _).trans (State.sifPop_ev s f n)
@[simp] theorem State.iopPopData_ipu (s : State) (f : Sif) (n : Nat) :
    (s.iopPopData f n).ipu = s.ipu := (State.iopWriteN_ipu _ _ _).trans (State.sifPop_ipu s f n)
@[simp] theorem State.iopPopData_vtlb (s : State) (f : Sif) (n : Nat) :
    (s.iopPopData f n).vtlb = s.vtlb := (State.iopWriteN_vtlb _ _ _).trans (State.sifPop_vtlb s f n)
@[simp] theorem State.iopPopData_refused (s : State) (f : Sif) (n : Nat) :
    (s.iopPopData f n).refused = s.refused := (State.iopWriteN_refused _ _ _).trans (State.sifPop_refused s f n)
@[simp] theorem State.iopPopData_params (s : State) (f : Sif) (n : Nat) :
    (s.iopPopData f n).params = s.params := (State.iopWriteN_params _ _ _).trans (State.sifPop_params s f n)
@[simp] theorem State.iopPopData_env (s : State) (f : Sif) (n : Nat) :
    (s.iopPopData f n).env = s.env := (State.iopWriteN_env _ _ _).trans (State.sifPop_env s f n)

-- iopPushJunk: only sif, faults, env
@[simp] theorem State.iopPushJunk_chan (s : State) (f : Sif) :
    (s.iopPushJunk f).chan = s.chan := (State.sifPush_chan _ f _).trans (State.drawN_chan s _)
@[simp] theorem State.iopPushJunk_g (s : State) (f : Sif) :
    (s.iopPushJunk f).g = s.g := (State.sifPush_g _ f _).trans (State.drawN_g s _)
@[simp] theorem State.iopPushJunk_gen (s : State) (f : Sif) :
    (s.iopPushJunk f).gen = s.gen := (State.sifPush_gen _ f _).trans (State.drawN_gen s _)
@[simp] theorem State.iopPushJunk_eng (s : State) (f : Sif) :
    (s.iopPushJunk f).eng = s.eng := (State.sifPush_eng _ f _).trans (State.drawN_eng s _)
@[simp] theorem State.iopPushJunk_queued (s : State) (f : Sif) :
    (s.iopPushJunk f).queued = s.queued := (State.sifPush_queued _ f _).trans (State.drawN_queued s _)
@[simp] theorem State.iopPushJunk_ev (s : State) (f : Sif) :
    (s.iopPushJunk f).ev = s.ev := (State.sifPush_ev _ f _).trans (State.drawN_ev s _)
@[simp] theorem State.iopPushJunk_ipu (s : State) (f : Sif) :
    (s.iopPushJunk f).ipu = s.ipu := (State.sifPush_ipu _ f _).trans (State.drawN_ipu s _)
@[simp] theorem State.iopPushJunk_mem (s : State) (f : Sif) :
    (s.iopPushJunk f).mem = s.mem := (State.sifPush_mem _ f _).trans (State.drawN_mem s _)
@[simp] theorem State.iopPushJunk_vtlb (s : State) (f : Sif) :
    (s.iopPushJunk f).vtlb = s.vtlb := (State.sifPush_vtlb _ f _).trans (State.drawN_vtlb s _)
@[simp] theorem State.iopPushJunk_refused (s : State) (f : Sif) :
    (s.iopPushJunk f).refused = s.refused := (State.sifPush_refused _ f _).trans (State.drawN_refused s _)
@[simp] theorem State.iopPushJunk_params (s : State) (f : Sif) :
    (s.iopPushJunk f).params = s.params := (State.sifPush_params _ f _).trans (State.drawN_params s _)

-- iopPopJunk: only sif, faults
@[simp] theorem State.iopPopJunk_chan (s : State) (f : Sif) :
    (s.iopPopJunk f).chan = s.chan := State.sifPop_chan s f _
@[simp] theorem State.iopPopJunk_g (s : State) (f : Sif) :
    (s.iopPopJunk f).g = s.g := State.sifPop_g s f _
@[simp] theorem State.iopPopJunk_gen (s : State) (f : Sif) :
    (s.iopPopJunk f).gen = s.gen := State.sifPop_gen s f _
@[simp] theorem State.iopPopJunk_eng (s : State) (f : Sif) :
    (s.iopPopJunk f).eng = s.eng := State.sifPop_eng s f _
@[simp] theorem State.iopPopJunk_queued (s : State) (f : Sif) :
    (s.iopPopJunk f).queued = s.queued := State.sifPop_queued s f _
@[simp] theorem State.iopPopJunk_ev (s : State) (f : Sif) :
    (s.iopPopJunk f).ev = s.ev := State.sifPop_ev s f _
@[simp] theorem State.iopPopJunk_ipu (s : State) (f : Sif) :
    (s.iopPopJunk f).ipu = s.ipu := State.sifPop_ipu s f _
@[simp] theorem State.iopPopJunk_mem (s : State) (f : Sif) :
    (s.iopPopJunk f).mem = s.mem := State.sifPop_mem s f _
@[simp] theorem State.iopPopJunk_vtlb (s : State) (f : Sif) :
    (s.iopPopJunk f).vtlb = s.vtlb := State.sifPop_vtlb s f _
@[simp] theorem State.iopPopJunk_refused (s : State) (f : Sif) :
    (s.iopPopJunk f).refused = s.refused := State.sifPop_refused s f _
@[simp] theorem State.iopPopJunk_params (s : State) (f : Sif) :
    (s.iopPopJunk f).params = s.params := State.sifPop_params s f _
@[simp] theorem State.iopPopJunk_env (s : State) (f : Sif) :
    (s.iopPopJunk f).env = s.env := State.sifPop_env s f _

-- iopStart: only sif
@[simp] theorem State.iopStart_chan (s : State) (f : Sif) (madr tadr : Word) (words : Nat) :
    (s.iopStart f madr tadr words).chan = s.chan := by
  unfold State.iopStart; split <;> rfl
@[simp] theorem State.iopStart_g (s : State) (f : Sif) (madr tadr : Word) (words : Nat) :
    (s.iopStart f madr tadr words).g = s.g := by
  unfold State.iopStart; split <;> rfl
@[simp] theorem State.iopStart_gen (s : State) (f : Sif) (madr tadr : Word) (words : Nat) :
    (s.iopStart f madr tadr words).gen = s.gen := by
  unfold State.iopStart; split <;> rfl
@[simp] theorem State.iopStart_eng (s : State) (f : Sif) (madr tadr : Word) (words : Nat) :
    (s.iopStart f madr tadr words).eng = s.eng := by
  unfold State.iopStart; split <;> rfl
@[simp] theorem State.iopStart_queued (s : State) (f : Sif) (madr tadr : Word) (words : Nat) :
    (s.iopStart f madr tadr words).queued = s.queued := by
  unfold State.iopStart; split <;> rfl
@[simp] theorem State.iopStart_ev (s : State) (f : Sif) (madr tadr : Word) (words : Nat) :
    (s.iopStart f madr tadr words).ev = s.ev := by
  unfold State.iopStart; split <;> rfl
@[simp] theorem State.iopStart_ipu (s : State) (f : Sif) (madr tadr : Word) (words : Nat) :
    (s.iopStart f madr tadr words).ipu = s.ipu := by
  unfold State.iopStart; split <;> rfl
@[simp] theorem State.iopStart_mem (s : State) (f : Sif) (madr tadr : Word) (words : Nat) :
    (s.iopStart f madr tadr words).mem = s.mem := by
  unfold State.iopStart; split <;> rfl
@[simp] theorem State.iopStart_vtlb (s : State) (f : Sif) (madr tadr : Word) (words : Nat) :
    (s.iopStart f madr tadr words).vtlb = s.vtlb := by
  unfold State.iopStart; split <;> rfl
@[simp] theorem State.iopStart_faults (s : State) (f : Sif) (madr tadr : Word) (words : Nat) :
    (s.iopStart f madr tadr words).faults = s.faults := by
  unfold State.iopStart; split <;> rfl
@[simp] theorem State.iopStart_refused (s : State) (f : Sif) (madr tadr : Word) (words : Nat) :
    (s.iopStart f madr tadr words).refused = s.refused := by
  unfold State.iopStart; split <;> rfl
@[simp] theorem State.iopStart_params (s : State) (f : Sif) (madr tadr : Word) (words : Nat) :
    (s.iopStart f madr tadr words).params = s.params := by
  unfold State.iopStart; split <;> rfl
@[simp] theorem State.iopStart_env (s : State) (f : Sif) (madr tadr : Word) (words : Nat) :
    (s.iopStart f madr tadr words).env = s.env := by
  unfold State.iopStart; split <;> rfl

-- vtlbInit: only vtlb
@[simp] theorem State.vtlbInit_chan (s : State) :
    s.vtlbInit.chan = s.chan := by
  unfold State.vtlbInit; split <;> rfl
@[simp] theorem State.vtlbInit_g (s : State) :
    s.vtlbInit.g = s.g := by
  unfold State.vtlbInit; split <;> rfl
@[simp] theorem State.vtlbInit_gen (s : State) :
    s.vtlbInit.gen = s.gen := by
  unfold State.vtlbInit; split <;> rfl
@[simp] theorem State.vtlbInit_eng (s : State) :
    s.vtlbInit.eng = s.eng := by
  unfold State.vtlbInit; split <;> rfl
@[simp] theorem State.vtlbInit_queued (s : State) :
    s.vtlbInit.queued = s.queued := by
  unfold State.vtlbInit; split <;> rfl
@[simp] theorem State.vtlbInit_ev (s : State) :
    s.vtlbInit.ev = s.ev := by
  unfold State.vtlbInit; split <;> rfl
@[simp] theorem State.vtlbInit_sif (s : State) :
    s.vtlbInit.sif = s.sif := by
  unfold State.vtlbInit; split <;> rfl
@[simp] theorem State.vtlbInit_ipu (s : State) :
    s.vtlbInit.ipu = s.ipu := by
  unfold State.vtlbInit; split <;> rfl
@[simp] theorem State.vtlbInit_mem (s : State) :
    s.vtlbInit.mem = s.mem := by
  unfold State.vtlbInit; split <;> rfl
@[simp] theorem State.vtlbInit_faults (s : State) :
    s.vtlbInit.faults = s.faults := by
  unfold State.vtlbInit; split <;> rfl
@[simp] theorem State.vtlbInit_refused (s : State) :
    s.vtlbInit.refused = s.refused := by
  unfold State.vtlbInit; split <;> rfl
@[simp] theorem State.vtlbInit_params (s : State) :
    s.vtlbInit.params = s.params := by
  unfold State.vtlbInit; split <;> rfl
@[simp] theorem State.vtlbInit_env (s : State) :
    s.vtlbInit.env = s.env := by
  unfold State.vtlbInit; split <;> rfl

-- mmuMap: only vtlb
@[simp] theorem State.mmuMap_chan (s : State) (p : Nat) (e : VtlbEntry) :
    (s.mmuMap p e).chan = s.chan := by
  unfold State.mmuMap; split <;> rfl
@[simp] theorem State.mmuMap_g (s : State) (p : Nat) (e : VtlbEntry) :
    (s.mmuMap p e).g = s.g := by
  unfold State.mmuMap; split <;> rfl
@[simp] theorem State.mmuMap_gen (s : State) (p : Nat) (e : VtlbEntry) :
    (s.mmuMap p e).gen = s.gen := by
  unfold State.mmuMap; split <;> rfl
@[simp] theorem State.mmuMap_eng (s : State) (p : Nat) (e : VtlbEntry) :
    (s.mmuMap p e).eng = s.eng := by
  unfold State.mmuMap; split <;> rfl
@[simp] theorem State.mmuMap_queued (s : State) (p : Nat) (e : VtlbEntry) :
    (s.mmuMap p e).queued = s.queued := by
  unfold State.mmuMap; split <;> rfl
@[simp] theorem State.mmuMap_ev (s : State) (p : Nat) (e : VtlbEntry) :
    (s.mmuMap p e).ev = s.ev := by
  unfold State.mmuMap; split <;> rfl
@[simp] theorem State.mmuMap_sif (s : State) (p : Nat) (e : VtlbEntry) :
    (s.mmuMap p e).sif = s.sif := by
  unfold State.mmuMap; split <;> rfl
@[simp] theorem State.mmuMap_ipu (s : State) (p : Nat) (e : VtlbEntry) :
    (s.mmuMap p e).ipu = s.ipu := by
  unfold State.mmuMap; split <;> rfl
@[simp] theorem State.mmuMap_mem (s : State) (p : Nat) (e : VtlbEntry) :
    (s.mmuMap p e).mem = s.mem := by
  unfold State.mmuMap; split <;> rfl
@[simp] theorem State.mmuMap_faults (s : State) (p : Nat) (e : VtlbEntry) :
    (s.mmuMap p e).faults = s.faults := by
  unfold State.mmuMap; split <;> rfl
@[simp] theorem State.mmuMap_refused (s : State) (p : Nat) (e : VtlbEntry) :
    (s.mmuMap p e).refused = s.refused := by
  unfold State.mmuMap; split <;> rfl
@[simp] theorem State.mmuMap_params (s : State) (p : Nat) (e : VtlbEntry) :
    (s.mmuMap p e).params = s.params := by
  unfold State.mmuMap; split <;> rfl
@[simp] theorem State.mmuMap_env (s : State) (p : Nat) (e : VtlbEntry) :
    (s.mmuMap p e).env = s.env := by
  unfold State.mmuMap; split <;> rfl

-- countOne: only chan, eng
@[simp] theorem State.countOne_g (s : State) (c : Ch) :
    (s.countOne c).g = s.g := rfl
@[simp] theorem State.countOne_gen (s : State) (c : Ch) :
    (s.countOne c).gen = s.gen := rfl
@[simp] theorem State.countOne_queued (s : State) (c : Ch) :
    (s.countOne c).queued = s.queued := rfl
@[simp] theorem State.countOne_ev (s : State) (c : Ch) :
    (s.countOne c).ev = s.ev := rfl
@[simp] theorem State.countOne_sif (s : State) (c : Ch) :
    (s.countOne c).sif = s.sif := rfl
@[simp] theorem State.countOne_ipu (s : State) (c : Ch) :
    (s.countOne c).ipu = s.ipu := rfl
@[simp] theorem State.countOne_mem (s : State) (c : Ch) :
    (s.countOne c).mem = s.mem := rfl
@[simp] theorem State.countOne_vtlb (s : State) (c : Ch) :
    (s.countOne c).vtlb = s.vtlb := rfl
@[simp] theorem State.countOne_faults (s : State) (c : Ch) :
    (s.countOne c).faults = s.faults := rfl
@[simp] theorem State.countOne_refused (s : State) (c : Ch) :
    (s.countOne c).refused = s.refused := rfl
@[simp] theorem State.countOne_params (s : State) (c : Ch) :
    (s.countOne c).params = s.params := rfl
@[simp] theorem State.countOne_env (s : State) (c : Ch) :
    (s.countOne c).env = s.env := rfl

-- interleaveOne: only chan, eng
@[simp] theorem State.interleaveOne_g (s : State) (c : Ch) :
    (s.interleaveOne c).g = s.g := by
  unfold State.interleaveOne; split
  · simp only []; split <;> rfl
  · rfl
@[simp] theorem State.interleaveOne_gen (s : State) (c : Ch) :
    (s.interleaveOne c).gen = s.gen := by
  unfold State.interleaveOne; split
  · simp only []; split <;> rfl
  · rfl
@[simp] theorem State.interleaveOne_queued (s : State) (c : Ch) :
    (s.interleaveOne c).queued = s.queued := by
  unfold State.interleaveOne; split
  · simp only []; split <;> rfl
  · rfl
@[simp] theorem State.interleaveOne_ev (s : State) (c : Ch) :
    (s.interleaveOne c).ev = s.ev := by
  unfold State.interleaveOne; split
  · simp only []; split <;> rfl
  · rfl
@[simp] theorem State.interleaveOne_sif (s : State) (c : Ch) :
    (s.interleaveOne c).sif = s.sif := by
  unfold State.interleaveOne; split
  · simp only []; split <;> rfl
  · rfl
@[simp] theorem State.interleaveOne_ipu (s : State) (c : Ch) :
    (s.interleaveOne c).ipu = s.ipu := by
  unfold State.interleaveOne; split
  · simp only []; split <;> rfl
  · rfl
@[simp] theorem State.interleaveOne_mem (s : State) (c : Ch) :
    (s.interleaveOne c).mem = s.mem := by
  unfold State.interleaveOne; split
  · simp only []; split <;> rfl
  · rfl
@[simp] theorem State.interleaveOne_vtlb (s : State) (c : Ch) :
    (s.interleaveOne c).vtlb = s.vtlb := by
  unfold State.interleaveOne; split
  · simp only []; split <;> rfl
  · rfl
@[simp] theorem State.interleaveOne_faults (s : State) (c : Ch) :
    (s.interleaveOne c).faults = s.faults := by
  unfold State.interleaveOne; split
  · simp only []; split <;> rfl
  · rfl
@[simp] theorem State.interleaveOne_refused (s : State) (c : Ch) :
    (s.interleaveOne c).refused = s.refused := by
  unfold State.interleaveOne; split
  · simp only []; split <;> rfl
  · rfl
@[simp] theorem State.interleaveOne_params (s : State) (c : Ch) :
    (s.interleaveOne c).params = s.params := by
  unfold State.interleaveOne; split
  · simp only []; split <;> rfl
  · rfl
@[simp] theorem State.interleaveOne_env (s : State) (c : Ch) :
    (s.interleaveOne c).env = s.env := by
  unfold State.interleaveOne; split
  · simp only []; split <;> rfl
  · rfl

-- giveSif: only sif, faults
@[simp] theorem State.giveSif_chan (s : State) (f : Sif) (q : Quad) :
    (State.giveSif f q s).chan = s.chan := State.sifPush_chan s f _
@[simp] theorem State.giveSif_g (s : State) (f : Sif) (q : Quad) :
    (State.giveSif f q s).g = s.g := State.sifPush_g s f _
@[simp] theorem State.giveSif_gen (s : State) (f : Sif) (q : Quad) :
    (State.giveSif f q s).gen = s.gen := State.sifPush_gen s f _
@[simp] theorem State.giveSif_eng (s : State) (f : Sif) (q : Quad) :
    (State.giveSif f q s).eng = s.eng := State.sifPush_eng s f _
@[simp] theorem State.giveSif_queued (s : State) (f : Sif) (q : Quad) :
    (State.giveSif f q s).queued = s.queued := State.sifPush_queued s f _
@[simp] theorem State.giveSif_ev (s : State) (f : Sif) (q : Quad) :
    (State.giveSif f q s).ev = s.ev := State.sifPush_ev s f _
@[simp] theorem State.giveSif_ipu (s : State) (f : Sif) (q : Quad) :
    (State.giveSif f q s).ipu = s.ipu := State.sifPush_ipu s f _
@[simp] theorem State.giveSif_mem (s : State) (f : Sif) (q : Quad) :
    (State.giveSif f q s).mem = s.mem := State.sifPush_mem s f _
@[simp] theorem State.giveSif_vtlb (s : State) (f : Sif) (q : Quad) :
    (State.giveSif f q s).vtlb = s.vtlb := State.sifPush_vtlb s f _
@[simp] theorem State.giveSif_refused (s : State) (f : Sif) (q : Quad) :
    (State.giveSif f q s).refused = s.refused := State.sifPush_refused s f _
@[simp] theorem State.giveSif_params (s : State) (f : Sif) (q : Quad) :
    (State.giveSif f q s).params = s.params := State.sifPush_params s f _
@[simp] theorem State.giveSif_env (s : State) (f : Sif) (q : Quad) :
    (State.giveSif f q s).env = s.env := State.sifPush_env s f _

-- takeSif: only sif, faults
@[simp] theorem State.takeSif_chan (s : State) (f : Sif) :
    (State.takeSif f s).2.chan = s.chan := State.sifPop_chan s f 4
@[simp] theorem State.takeSif_g (s : State) (f : Sif) :
    (State.takeSif f s).2.g = s.g := State.sifPop_g s f 4
@[simp] theorem State.takeSif_gen (s : State) (f : Sif) :
    (State.takeSif f s).2.gen = s.gen := State.sifPop_gen s f 4
@[simp] theorem State.takeSif_eng (s : State) (f : Sif) :
    (State.takeSif f s).2.eng = s.eng := State.sifPop_eng s f 4
@[simp] theorem State.takeSif_queued (s : State) (f : Sif) :
    (State.takeSif f s).2.queued = s.queued := State.sifPop_queued s f 4
@[simp] theorem State.takeSif_ev (s : State) (f : Sif) :
    (State.takeSif f s).2.ev = s.ev := State.sifPop_ev s f 4
@[simp] theorem State.takeSif_ipu (s : State) (f : Sif) :
    (State.takeSif f s).2.ipu = s.ipu := State.sifPop_ipu s f 4
@[simp] theorem State.takeSif_mem (s : State) (f : Sif) :
    (State.takeSif f s).2.mem = s.mem := State.sifPop_mem s f 4
@[simp] theorem State.takeSif_vtlb (s : State) (f : Sif) :
    (State.takeSif f s).2.vtlb = s.vtlb := State.sifPop_vtlb s f 4
@[simp] theorem State.takeSif_refused (s : State) (f : Sif) :
    (State.takeSif f s).2.refused = s.refused := State.sifPop_refused s f 4
@[simp] theorem State.takeSif_params (s : State) (f : Sif) :
    (State.takeSif f s).2.params = s.params := State.sifPop_params s f 4
@[simp] theorem State.takeSif_env (s : State) (f : Sif) :
    (State.takeSif f s).2.env = s.env := State.sifPop_env s f 4

-- giveSpr: only mem, chan
@[simp] theorem State.giveSpr_g (s : State) (q : Quad) :
    (State.giveSpr q s).g = s.g := rfl
@[simp] theorem State.giveSpr_gen (s : State) (q : Quad) :
    (State.giveSpr q s).gen = s.gen := rfl
@[simp] theorem State.giveSpr_eng (s : State) (q : Quad) :
    (State.giveSpr q s).eng = s.eng := rfl
@[simp] theorem State.giveSpr_queued (s : State) (q : Quad) :
    (State.giveSpr q s).queued = s.queued := rfl
@[simp] theorem State.giveSpr_ev (s : State) (q : Quad) :
    (State.giveSpr q s).ev = s.ev := rfl
@[simp] theorem State.giveSpr_sif (s : State) (q : Quad) :
    (State.giveSpr q s).sif = s.sif := rfl
@[simp] theorem State.giveSpr_ipu (s : State) (q : Quad) :
    (State.giveSpr q s).ipu = s.ipu := rfl
@[simp] theorem State.giveSpr_vtlb (s : State) (q : Quad) :
    (State.giveSpr q s).vtlb = s.vtlb := rfl
@[simp] theorem State.giveSpr_faults (s : State) (q : Quad) :
    (State.giveSpr q s).faults = s.faults := rfl
@[simp] theorem State.giveSpr_refused (s : State) (q : Quad) :
    (State.giveSpr q s).refused = s.refused := rfl
@[simp] theorem State.giveSpr_params (s : State) (q : Quad) :
    (State.giveSpr q s).params = s.params := rfl
@[simp] theorem State.giveSpr_env (s : State) (q : Quad) :
    (State.giveSpr q s).env = s.env := rfl

-- endUnit: only eng, ev
@[simp] theorem State.endUnit_chan (s : State) (c : Ch) :
    (s.endUnit c).chan = s.chan := by
  unfold State.endUnit; simp only []; split
  · split <;> rfl
  · rfl
@[simp] theorem State.endUnit_g (s : State) (c : Ch) :
    (s.endUnit c).g = s.g := by
  unfold State.endUnit; simp only []; split
  · split <;> rfl
  · rfl
@[simp] theorem State.endUnit_gen (s : State) (c : Ch) :
    (s.endUnit c).gen = s.gen := by
  unfold State.endUnit; simp only []; split
  · split <;> rfl
  · rfl
@[simp] theorem State.endUnit_queued (s : State) (c : Ch) :
    (s.endUnit c).queued = s.queued := by
  unfold State.endUnit; simp only []; split
  · split <;> rfl
  · rfl
@[simp] theorem State.endUnit_sif (s : State) (c : Ch) :
    (s.endUnit c).sif = s.sif := by
  unfold State.endUnit; simp only []; split
  · split <;> rfl
  · rfl
@[simp] theorem State.endUnit_ipu (s : State) (c : Ch) :
    (s.endUnit c).ipu = s.ipu := by
  unfold State.endUnit; simp only []; split
  · split <;> rfl
  · rfl
@[simp] theorem State.endUnit_mem (s : State) (c : Ch) :
    (s.endUnit c).mem = s.mem := by
  unfold State.endUnit; simp only []; split
  · split <;> rfl
  · rfl
@[simp] theorem State.endUnit_vtlb (s : State) (c : Ch) :
    (s.endUnit c).vtlb = s.vtlb := by
  unfold State.endUnit; simp only []; split
  · split <;> rfl
  · rfl
@[simp] theorem State.endUnit_faults (s : State) (c : Ch) :
    (s.endUnit c).faults = s.faults := by
  unfold State.endUnit; simp only []; split
  · split <;> rfl
  · rfl
@[simp] theorem State.endUnit_refused (s : State) (c : Ch) :
    (s.endUnit c).refused = s.refused := by
  unfold State.endUnit; simp only []; split
  · split <;> rfl
  · rfl
@[simp] theorem State.endUnit_params (s : State) (c : Ch) :
    (s.endUnit c).params = s.params := by
  unfold State.endUnit; simp only []; split
  · split <;> rfl
  · rfl
@[simp] theorem State.endUnit_env (s : State) (c : Ch) :
    (s.endUnit c).env = s.env := by
  unfold State.endUnit; simp only []; split
  · split <;> rfl
  · rfl

-- addCycles: only eng
@[simp] theorem State.addCycles_chan (s : State) (c : Ch) (n : Nat) :
    (s.addCycles c n).chan = s.chan := rfl
@[simp] theorem State.addCycles_g (s : State) (c : Ch) (n : Nat) :
    (s.addCycles c n).g = s.g := rfl
@[simp] theorem State.addCycles_gen (s : State) (c : Ch) (n : Nat) :
    (s.addCycles c n).gen = s.gen := rfl
@[simp] theorem State.addCycles_queued (s : State) (c : Ch) (n : Nat) :
    (s.addCycles c n).queued = s.queued := rfl
@[simp] theorem State.addCycles_ev (s : State) (c : Ch) (n : Nat) :
    (s.addCycles c n).ev = s.ev := rfl
@[simp] theorem State.addCycles_sif (s : State) (c : Ch) (n : Nat) :
    (s.addCycles c n).sif = s.sif := rfl
@[simp] theorem State.addCycles_ipu (s : State) (c : Ch) (n : Nat) :
    (s.addCycles c n).ipu = s.ipu := rfl
@[simp] theorem State.addCycles_mem (s : State) (c : Ch) (n : Nat) :
    (s.addCycles c n).mem = s.mem := rfl
@[simp] theorem State.addCycles_vtlb (s : State) (c : Ch) (n : Nat) :
    (s.addCycles c n).vtlb = s.vtlb := rfl
@[simp] theorem State.addCycles_faults (s : State) (c : Ch) (n : Nat) :
    (s.addCycles c n).faults = s.faults := rfl
@[simp] theorem State.addCycles_refused (s : State) (c : Ch) (n : Nat) :
    (s.addCycles c n).refused = s.refused := rfl
@[simp] theorem State.addCycles_params (s : State) (c : Ch) (n : Nat) :
    (s.addCycles c n).params = s.params := rfl
@[simp] theorem State.addCycles_env (s : State) (c : Ch) (n : Nat) :
    (s.addCycles c n).env = s.env := rfl

-- fireEvent: only g, chan, eng, ev
@[simp] theorem State.fireEvent_gen (s : State) (c : Ch) :
    (s.fireEvent c).gen = s.gen := by
  unfold State.fireEvent; repeat' (first | rfl | split)
@[simp] theorem State.fireEvent_queued (s : State) (c : Ch) :
    (s.fireEvent c).queued = s.queued := by
  unfold State.fireEvent; repeat' (first | rfl | split)
@[simp] theorem State.fireEvent_sif (s : State) (c : Ch) :
    (s.fireEvent c).sif = s.sif := by
  unfold State.fireEvent; repeat' (first | rfl | split)
@[simp] theorem State.fireEvent_ipu (s : State) (c : Ch) :
    (s.fireEvent c).ipu = s.ipu := by
  unfold State.fireEvent; repeat' (first | rfl | split)
@[simp] theorem State.fireEvent_mem (s : State) (c : Ch) :
    (s.fireEvent c).mem = s.mem := by
  unfold State.fireEvent; repeat' (first | rfl | split)
@[simp] theorem State.fireEvent_vtlb (s : State) (c : Ch) :
    (s.fireEvent c).vtlb = s.vtlb := by
  unfold State.fireEvent; repeat' (first | rfl | split)
@[simp] theorem State.fireEvent_faults (s : State) (c : Ch) :
    (s.fireEvent c).faults = s.faults := by
  unfold State.fireEvent; repeat' (first | rfl | split)
@[simp] theorem State.fireEvent_refused (s : State) (c : Ch) :
    (s.fireEvent c).refused = s.refused := by
  unfold State.fireEvent; repeat' (first | rfl | split)
@[simp] theorem State.fireEvent_params (s : State) (c : Ch) :
    (s.fireEvent c).params = s.params := by
  unfold State.fireEvent; repeat' (first | rfl | split)
@[simp] theorem State.fireEvent_env (s : State) (c : Ch) :
    (s.fireEvent c).env = s.env := by
  unfold State.fireEvent; repeat' (first | rfl | split)

-- fireIopEvent: only sif, env
@[simp] theorem State.fireIopEvent_chan (s : State) (f : Sif) :
    (s.fireIopEvent f).chan = s.chan := by
  unfold State.fireIopEvent; split <;> rfl
@[simp] theorem State.fireIopEvent_g (s : State) (f : Sif) :
    (s.fireIopEvent f).g = s.g := by
  unfold State.fireIopEvent; split <;> rfl
@[simp] theorem State.fireIopEvent_gen (s : State) (f : Sif) :
    (s.fireIopEvent f).gen = s.gen := by
  unfold State.fireIopEvent; split <;> rfl
@[simp] theorem State.fireIopEvent_eng (s : State) (f : Sif) :
    (s.fireIopEvent f).eng = s.eng := by
  unfold State.fireIopEvent; split <;> rfl
@[simp] theorem State.fireIopEvent_queued (s : State) (f : Sif) :
    (s.fireIopEvent f).queued = s.queued := by
  unfold State.fireIopEvent; split <;> rfl
@[simp] theorem State.fireIopEvent_ev (s : State) (f : Sif) :
    (s.fireIopEvent f).ev = s.ev := by
  unfold State.fireIopEvent; split <;> rfl
@[simp] theorem State.fireIopEvent_ipu (s : State) (f : Sif) :
    (s.fireIopEvent f).ipu = s.ipu := by
  unfold State.fireIopEvent; split <;> rfl
@[simp] theorem State.fireIopEvent_mem (s : State) (f : Sif) :
    (s.fireIopEvent f).mem = s.mem := by
  unfold State.fireIopEvent; split <;> rfl
@[simp] theorem State.fireIopEvent_vtlb (s : State) (f : Sif) :
    (s.fireIopEvent f).vtlb = s.vtlb := by
  unfold State.fireIopEvent; split <;> rfl
@[simp] theorem State.fireIopEvent_faults (s : State) (f : Sif) :
    (s.fireIopEvent f).faults = s.faults := by
  unfold State.fireIopEvent; split <;> rfl
@[simp] theorem State.fireIopEvent_refused (s : State) (f : Sif) :
    (s.fireIopEvent f).refused = s.refused := by
  unfold State.fireIopEvent; split <;> rfl
@[simp] theorem State.fireIopEvent_params (s : State) (f : Sif) :
    (s.fireIopEvent f).params = s.params := by
  unfold State.fireIopEvent; split <;> rfl

-- extPump: only g, chan, eng
@[simp] theorem State.extPump_gen (s : State) (c : Ch) (op : ExtOp) :
    (s.extPump c op).gen = s.gen := by
  unfold State.extPump; repeat' (first | rfl | split)
@[simp] theorem State.extPump_queued (s : State) (c : Ch) (op : ExtOp) :
    (s.extPump c op).queued = s.queued := by
  unfold State.extPump; repeat' (first | rfl | split)
@[simp] theorem State.extPump_ev (s : State) (c : Ch) (op : ExtOp) :
    (s.extPump c op).ev = s.ev := by
  unfold State.extPump; repeat' (first | rfl | split)
@[simp] theorem State.extPump_sif (s : State) (c : Ch) (op : ExtOp) :
    (s.extPump c op).sif = s.sif := by
  unfold State.extPump; repeat' (first | rfl | split)
@[simp] theorem State.extPump_ipu (s : State) (c : Ch) (op : ExtOp) :
    (s.extPump c op).ipu = s.ipu := by
  unfold State.extPump; repeat' (first | rfl | split)
@[simp] theorem State.extPump_mem (s : State) (c : Ch) (op : ExtOp) :
    (s.extPump c op).mem = s.mem := by
  unfold State.extPump; repeat' (first | rfl | split)
@[simp] theorem State.extPump_vtlb (s : State) (c : Ch) (op : ExtOp) :
    (s.extPump c op).vtlb = s.vtlb := by
  unfold State.extPump; repeat' (first | rfl | split)
@[simp] theorem State.extPump_faults (s : State) (c : Ch) (op : ExtOp) :
    (s.extPump c op).faults = s.faults := by
  unfold State.extPump; repeat' (first | rfl | split)
@[simp] theorem State.extPump_refused (s : State) (c : Ch) (op : ExtOp) :
    (s.extPump c op).refused = s.refused := by
  unfold State.extPump; repeat' (first | rfl | split)
@[simp] theorem State.extPump_params (s : State) (c : Ch) (op : ExtOp) :
    (s.extPump c op).params = s.params := by
  unfold State.extPump; repeat' (first | rfl | split)
@[simp] theorem State.extPump_env (s : State) (c : Ch) (op : ExtOp) :
    (s.extPump c op).env = s.env := by
  unfold State.extPump; repeat' (first | rfl | split)

-- extSchedule: only ev
@[simp] theorem State.extSchedule_chan (s : State) (c : Ch) (d : Nat) :
    (s.extSchedule c d).chan = s.chan := by
  unfold State.extSchedule; split <;> rfl
@[simp] theorem State.extSchedule_g (s : State) (c : Ch) (d : Nat) :
    (s.extSchedule c d).g = s.g := by
  unfold State.extSchedule; split <;> rfl
@[simp] theorem State.extSchedule_gen (s : State) (c : Ch) (d : Nat) :
    (s.extSchedule c d).gen = s.gen := by
  unfold State.extSchedule; split <;> rfl
@[simp] theorem State.extSchedule_eng (s : State) (c : Ch) (d : Nat) :
    (s.extSchedule c d).eng = s.eng := by
  unfold State.extSchedule; split <;> rfl
@[simp] theorem State.extSchedule_queued (s : State) (c : Ch) (d : Nat) :
    (s.extSchedule c d).queued = s.queued := by
  unfold State.extSchedule; split <;> rfl
@[simp] theorem State.extSchedule_sif (s : State) (c : Ch) (d : Nat) :
    (s.extSchedule c d).sif = s.sif := by
  unfold State.extSchedule; split <;> rfl
@[simp] theorem State.extSchedule_ipu (s : State) (c : Ch) (d : Nat) :
    (s.extSchedule c d).ipu = s.ipu := by
  unfold State.extSchedule; split <;> rfl
@[simp] theorem State.extSchedule_mem (s : State) (c : Ch) (d : Nat) :
    (s.extSchedule c d).mem = s.mem := by
  unfold State.extSchedule; split <;> rfl
@[simp] theorem State.extSchedule_vtlb (s : State) (c : Ch) (d : Nat) :
    (s.extSchedule c d).vtlb = s.vtlb := by
  unfold State.extSchedule; split <;> rfl
@[simp] theorem State.extSchedule_faults (s : State) (c : Ch) (d : Nat) :
    (s.extSchedule c d).faults = s.faults := by
  unfold State.extSchedule; split <;> rfl
@[simp] theorem State.extSchedule_refused (s : State) (c : Ch) (d : Nat) :
    (s.extSchedule c d).refused = s.refused := by
  unfold State.extSchedule; split <;> rfl
@[simp] theorem State.extSchedule_params (s : State) (c : Ch) (d : Nat) :
    (s.extSchedule c d).params = s.params := by
  unfold State.extSchedule; split <;> rfl
@[simp] theorem State.extSchedule_env (s : State) (c : Ch) (d : Nat) :
    (s.extSchedule c d).env = s.env := by
  unfold State.extSchedule; split <;> rfl

-- iopCpuStore: only mem
@[simp] theorem State.iopCpuStore_chan (s : State) (w : Width) (a : Word) (v : Quad) :
    (s.iopCpuStore w a v).chan = s.chan := by
  unfold State.iopCpuStore; split <;> rfl
@[simp] theorem State.iopCpuStore_g (s : State) (w : Width) (a : Word) (v : Quad) :
    (s.iopCpuStore w a v).g = s.g := by
  unfold State.iopCpuStore; split <;> rfl
@[simp] theorem State.iopCpuStore_gen (s : State) (w : Width) (a : Word) (v : Quad) :
    (s.iopCpuStore w a v).gen = s.gen := by
  unfold State.iopCpuStore; split <;> rfl
@[simp] theorem State.iopCpuStore_eng (s : State) (w : Width) (a : Word) (v : Quad) :
    (s.iopCpuStore w a v).eng = s.eng := by
  unfold State.iopCpuStore; split <;> rfl
@[simp] theorem State.iopCpuStore_queued (s : State) (w : Width) (a : Word) (v : Quad) :
    (s.iopCpuStore w a v).queued = s.queued := by
  unfold State.iopCpuStore; split <;> rfl
@[simp] theorem State.iopCpuStore_ev (s : State) (w : Width) (a : Word) (v : Quad) :
    (s.iopCpuStore w a v).ev = s.ev := by
  unfold State.iopCpuStore; split <;> rfl
@[simp] theorem State.iopCpuStore_sif (s : State) (w : Width) (a : Word) (v : Quad) :
    (s.iopCpuStore w a v).sif = s.sif := by
  unfold State.iopCpuStore; split <;> rfl
@[simp] theorem State.iopCpuStore_ipu (s : State) (w : Width) (a : Word) (v : Quad) :
    (s.iopCpuStore w a v).ipu = s.ipu := by
  unfold State.iopCpuStore; split <;> rfl
@[simp] theorem State.iopCpuStore_vtlb (s : State) (w : Width) (a : Word) (v : Quad) :
    (s.iopCpuStore w a v).vtlb = s.vtlb := by
  unfold State.iopCpuStore; split <;> rfl
@[simp] theorem State.iopCpuStore_faults (s : State) (w : Width) (a : Word) (v : Quad) :
    (s.iopCpuStore w a v).faults = s.faults := by
  unfold State.iopCpuStore; split <;> rfl
@[simp] theorem State.iopCpuStore_refused (s : State) (w : Width) (a : Word) (v : Quad) :
    (s.iopCpuStore w a v).refused = s.refused := by
  unfold State.iopCpuStore; split <;> rfl
@[simp] theorem State.iopCpuStore_params (s : State) (w : Width) (a : Word) (v : Quad) :
    (s.iopCpuStore w a v).params = s.params := by
  unfold State.iopCpuStore; split <;> rfl
@[simp] theorem State.iopCpuStore_env (s : State) (w : Width) (a : Word) (v : Quad) :
    (s.iopCpuStore w a v).env = s.env := by
  unfold State.iopCpuStore; split <;> rfl

-- moveOne: only chan, mem, sif, ipu, faults
theorem State.moveOne_g {s s' : State} {c : Ch} (h : s.moveOne c = some s') : s'.g = s.g := by
  have hto : ∀ (k : Ch) (take : State → Quad × State), (∀ s, (take s).2.g = s.g) →
      s.moveToMemory k take = some s' → s'.g = s.g := by
    intro k take ht h
    unfold State.moveToMemory at h
    split at h
    · exact nomatch h
    · cases h; exact ht s
  have hfro : ∀ (k : Ch) (give : Quad → State → State), (∀ q s, (give q s).g = s.g) →
      s.moveFromMemory k give = some s' → s'.g = s.g := by
    intro k give hg h
    unfold State.moveFromMemory at h
    split at h
    · exact nomatch h
    · cases h; exact hg _ s
  cases c
  case ipu0 => exact hto _ _ (fun s => State.ipuOutPop_g s) h
  case ipu1 => exact hfro _ _ (fun q s => State.ipuInPush_g s q) h
  case sif0 => exact hto _ _ (fun s => State.takeSif_g s _) h
  case sif1 => exact hfro _ _ (fun q s => State.giveSif_g s _ q) h
  case sif2 =>
    unfold State.moveOne at h
    simp only [] at h
    split at h
    · exact hfro _ _ (fun q s => State.giveSif_g s _ q) h
    · exact hto _ _ (fun s => State.takeSif_g s _) h
  case spr0 => exact hto _ State.takeSpr (fun _ => rfl) h
  case spr1 => exact hfro _ _ (fun q s => State.giveSpr_g s q) h
  all_goals exact nomatch h

theorem State.moveOne_gen {s s' : State} {c : Ch} (h : s.moveOne c = some s') : s'.gen = s.gen := by
  have hto : ∀ (k : Ch) (take : State → Quad × State), (∀ s, (take s).2.gen = s.gen) →
      s.moveToMemory k take = some s' → s'.gen = s.gen := by
    intro k take ht h
    unfold State.moveToMemory at h
    split at h
    · exact nomatch h
    · cases h; exact ht s
  have hfro : ∀ (k : Ch) (give : Quad → State → State), (∀ q s, (give q s).gen = s.gen) →
      s.moveFromMemory k give = some s' → s'.gen = s.gen := by
    intro k give hg h
    unfold State.moveFromMemory at h
    split at h
    · exact nomatch h
    · cases h; exact hg _ s
  cases c
  case ipu0 => exact hto _ _ (fun s => State.ipuOutPop_gen s) h
  case ipu1 => exact hfro _ _ (fun q s => State.ipuInPush_gen s q) h
  case sif0 => exact hto _ _ (fun s => State.takeSif_gen s _) h
  case sif1 => exact hfro _ _ (fun q s => State.giveSif_gen s _ q) h
  case sif2 =>
    unfold State.moveOne at h
    simp only [] at h
    split at h
    · exact hfro _ _ (fun q s => State.giveSif_gen s _ q) h
    · exact hto _ _ (fun s => State.takeSif_gen s _) h
  case spr0 => exact hto _ State.takeSpr (fun _ => rfl) h
  case spr1 => exact hfro _ _ (fun q s => State.giveSpr_gen s q) h
  all_goals exact nomatch h

theorem State.moveOne_eng {s s' : State} {c : Ch} (h : s.moveOne c = some s') : s'.eng = s.eng := by
  have hto : ∀ (k : Ch) (take : State → Quad × State), (∀ s, (take s).2.eng = s.eng) →
      s.moveToMemory k take = some s' → s'.eng = s.eng := by
    intro k take ht h
    unfold State.moveToMemory at h
    split at h
    · exact nomatch h
    · cases h; exact ht s
  have hfro : ∀ (k : Ch) (give : Quad → State → State), (∀ q s, (give q s).eng = s.eng) →
      s.moveFromMemory k give = some s' → s'.eng = s.eng := by
    intro k give hg h
    unfold State.moveFromMemory at h
    split at h
    · exact nomatch h
    · cases h; exact hg _ s
  cases c
  case ipu0 => exact hto _ _ (fun s => State.ipuOutPop_eng s) h
  case ipu1 => exact hfro _ _ (fun q s => State.ipuInPush_eng s q) h
  case sif0 => exact hto _ _ (fun s => State.takeSif_eng s _) h
  case sif1 => exact hfro _ _ (fun q s => State.giveSif_eng s _ q) h
  case sif2 =>
    unfold State.moveOne at h
    simp only [] at h
    split at h
    · exact hfro _ _ (fun q s => State.giveSif_eng s _ q) h
    · exact hto _ _ (fun s => State.takeSif_eng s _) h
  case spr0 => exact hto _ State.takeSpr (fun _ => rfl) h
  case spr1 => exact hfro _ _ (fun q s => State.giveSpr_eng s q) h
  all_goals exact nomatch h

theorem State.moveOne_queued {s s' : State} {c : Ch} (h : s.moveOne c = some s') : s'.queued = s.queued := by
  have hto : ∀ (k : Ch) (take : State → Quad × State), (∀ s, (take s).2.queued = s.queued) →
      s.moveToMemory k take = some s' → s'.queued = s.queued := by
    intro k take ht h
    unfold State.moveToMemory at h
    split at h
    · exact nomatch h
    · cases h; exact ht s
  have hfro : ∀ (k : Ch) (give : Quad → State → State), (∀ q s, (give q s).queued = s.queued) →
      s.moveFromMemory k give = some s' → s'.queued = s.queued := by
    intro k give hg h
    unfold State.moveFromMemory at h
    split at h
    · exact nomatch h
    · cases h; exact hg _ s
  cases c
  case ipu0 => exact hto _ _ (fun s => State.ipuOutPop_queued s) h
  case ipu1 => exact hfro _ _ (fun q s => State.ipuInPush_queued s q) h
  case sif0 => exact hto _ _ (fun s => State.takeSif_queued s _) h
  case sif1 => exact hfro _ _ (fun q s => State.giveSif_queued s _ q) h
  case sif2 =>
    unfold State.moveOne at h
    simp only [] at h
    split at h
    · exact hfro _ _ (fun q s => State.giveSif_queued s _ q) h
    · exact hto _ _ (fun s => State.takeSif_queued s _) h
  case spr0 => exact hto _ State.takeSpr (fun _ => rfl) h
  case spr1 => exact hfro _ _ (fun q s => State.giveSpr_queued s q) h
  all_goals exact nomatch h

theorem State.moveOne_ev {s s' : State} {c : Ch} (h : s.moveOne c = some s') : s'.ev = s.ev := by
  have hto : ∀ (k : Ch) (take : State → Quad × State), (∀ s, (take s).2.ev = s.ev) →
      s.moveToMemory k take = some s' → s'.ev = s.ev := by
    intro k take ht h
    unfold State.moveToMemory at h
    split at h
    · exact nomatch h
    · cases h; exact ht s
  have hfro : ∀ (k : Ch) (give : Quad → State → State), (∀ q s, (give q s).ev = s.ev) →
      s.moveFromMemory k give = some s' → s'.ev = s.ev := by
    intro k give hg h
    unfold State.moveFromMemory at h
    split at h
    · exact nomatch h
    · cases h; exact hg _ s
  cases c
  case ipu0 => exact hto _ _ (fun s => State.ipuOutPop_ev s) h
  case ipu1 => exact hfro _ _ (fun q s => State.ipuInPush_ev s q) h
  case sif0 => exact hto _ _ (fun s => State.takeSif_ev s _) h
  case sif1 => exact hfro _ _ (fun q s => State.giveSif_ev s _ q) h
  case sif2 =>
    unfold State.moveOne at h
    simp only [] at h
    split at h
    · exact hfro _ _ (fun q s => State.giveSif_ev s _ q) h
    · exact hto _ _ (fun s => State.takeSif_ev s _) h
  case spr0 => exact hto _ State.takeSpr (fun _ => rfl) h
  case spr1 => exact hfro _ _ (fun q s => State.giveSpr_ev s q) h
  all_goals exact nomatch h

theorem State.moveOne_vtlb {s s' : State} {c : Ch} (h : s.moveOne c = some s') : s'.vtlb = s.vtlb := by
  have hto : ∀ (k : Ch) (take : State → Quad × State), (∀ s, (take s).2.vtlb = s.vtlb) →
      s.moveToMemory k take = some s' → s'.vtlb = s.vtlb := by
    intro k take ht h
    unfold State.moveToMemory at h
    split at h
    · exact nomatch h
    · cases h; exact ht s
  have hfro : ∀ (k : Ch) (give : Quad → State → State), (∀ q s, (give q s).vtlb = s.vtlb) →
      s.moveFromMemory k give = some s' → s'.vtlb = s.vtlb := by
    intro k give hg h
    unfold State.moveFromMemory at h
    split at h
    · exact nomatch h
    · cases h; exact hg _ s
  cases c
  case ipu0 => exact hto _ _ (fun s => State.ipuOutPop_vtlb s) h
  case ipu1 => exact hfro _ _ (fun q s => State.ipuInPush_vtlb s q) h
  case sif0 => exact hto _ _ (fun s => State.takeSif_vtlb s _) h
  case sif1 => exact hfro _ _ (fun q s => State.giveSif_vtlb s _ q) h
  case sif2 =>
    unfold State.moveOne at h
    simp only [] at h
    split at h
    · exact hfro _ _ (fun q s => State.giveSif_vtlb s _ q) h
    · exact hto _ _ (fun s => State.takeSif_vtlb s _) h
  case spr0 => exact hto _ State.takeSpr (fun _ => rfl) h
  case spr1 => exact hfro _ _ (fun q s => State.giveSpr_vtlb s q) h
  all_goals exact nomatch h

theorem State.moveOne_refused {s s' : State} {c : Ch} (h : s.moveOne c = some s') : s'.refused = s.refused := by
  have hto : ∀ (k : Ch) (take : State → Quad × State), (∀ s, (take s).2.refused = s.refused) →
      s.moveToMemory k take = some s' → s'.refused = s.refused := by
    intro k take ht h
    unfold State.moveToMemory at h
    split at h
    · exact nomatch h
    · cases h; exact ht s
  have hfro : ∀ (k : Ch) (give : Quad → State → State), (∀ q s, (give q s).refused = s.refused) →
      s.moveFromMemory k give = some s' → s'.refused = s.refused := by
    intro k give hg h
    unfold State.moveFromMemory at h
    split at h
    · exact nomatch h
    · cases h; exact hg _ s
  cases c
  case ipu0 => exact hto _ _ (fun s => State.ipuOutPop_refused s) h
  case ipu1 => exact hfro _ _ (fun q s => State.ipuInPush_refused s q) h
  case sif0 => exact hto _ _ (fun s => State.takeSif_refused s _) h
  case sif1 => exact hfro _ _ (fun q s => State.giveSif_refused s _ q) h
  case sif2 =>
    unfold State.moveOne at h
    simp only [] at h
    split at h
    · exact hfro _ _ (fun q s => State.giveSif_refused s _ q) h
    · exact hto _ _ (fun s => State.takeSif_refused s _) h
  case spr0 => exact hto _ State.takeSpr (fun _ => rfl) h
  case spr1 => exact hfro _ _ (fun q s => State.giveSpr_refused s q) h
  all_goals exact nomatch h

theorem State.moveOne_params {s s' : State} {c : Ch} (h : s.moveOne c = some s') : s'.params = s.params := by
  have hto : ∀ (k : Ch) (take : State → Quad × State), (∀ s, (take s).2.params = s.params) →
      s.moveToMemory k take = some s' → s'.params = s.params := by
    intro k take ht h
    unfold State.moveToMemory at h
    split at h
    · exact nomatch h
    · cases h; exact ht s
  have hfro : ∀ (k : Ch) (give : Quad → State → State), (∀ q s, (give q s).params = s.params) →
      s.moveFromMemory k give = some s' → s'.params = s.params := by
    intro k give hg h
    unfold State.moveFromMemory at h
    split at h
    · exact nomatch h
    · cases h; exact hg _ s
  cases c
  case ipu0 => exact hto _ _ (fun s => State.ipuOutPop_params s) h
  case ipu1 => exact hfro _ _ (fun q s => State.ipuInPush_params s q) h
  case sif0 => exact hto _ _ (fun s => State.takeSif_params s _) h
  case sif1 => exact hfro _ _ (fun q s => State.giveSif_params s _ q) h
  case sif2 =>
    unfold State.moveOne at h
    simp only [] at h
    split at h
    · exact hfro _ _ (fun q s => State.giveSif_params s _ q) h
    · exact hto _ _ (fun s => State.takeSif_params s _) h
  case spr0 => exact hto _ State.takeSpr (fun _ => rfl) h
  case spr1 => exact hfro _ _ (fun q s => State.giveSpr_params s q) h
  all_goals exact nomatch h

theorem State.moveOne_env {s s' : State} {c : Ch} (h : s.moveOne c = some s') : s'.env = s.env := by
  have hto : ∀ (k : Ch) (take : State → Quad × State), (∀ s, (take s).2.env = s.env) →
      s.moveToMemory k take = some s' → s'.env = s.env := by
    intro k take ht h
    unfold State.moveToMemory at h
    split at h
    · exact nomatch h
    · cases h; exact ht s
  have hfro : ∀ (k : Ch) (give : Quad → State → State), (∀ q s, (give q s).env = s.env) →
      s.moveFromMemory k give = some s' → s'.env = s.env := by
    intro k give hg h
    unfold State.moveFromMemory at h
    split at h
    · exact nomatch h
    · cases h; exact hg _ s
  cases c
  case ipu0 => exact hto _ _ (fun s => State.ipuOutPop_env s) h
  case ipu1 => exact hfro _ _ (fun q s => State.ipuInPush_env s q) h
  case sif0 => exact hto _ _ (fun s => State.takeSif_env s _) h
  case sif1 => exact hfro _ _ (fun q s => State.giveSif_env s _ q) h
  case sif2 =>
    unfold State.moveOne at h
    simp only [] at h
    split at h
    · exact hfro _ _ (fun q s => State.giveSif_env s _ q) h
    · exact hto _ _ (fun s => State.takeSif_env s _) h
  case spr0 => exact hto _ State.takeSpr (fun _ => rfl) h
  case spr1 => exact hfro _ _ (fun q s => State.giveSpr_env s q) h
  all_goals exact nomatch h

@[simp] theorem State.moveN_gen (s : State) (c : Ch) (n : Nat) : (s.moveN c n).1.gen = s.gen := by
  induction n generalizing s with
  | zero => rfl
  | succ n ih =>
    unfold State.moveN
    split
    · rfl
    · next s1 h =>
      rw [ih, State.interleaveOne_gen, State.countOne_gen, State.moveOne_gen h]

@[simp] theorem State.transferStep_gen (s : State) (c : Ch) (n : Nat) : (s.transferStep c n).gen = s.gen := by
  have hm := State.moveN_gen s c n
  unfold State.transferStep
  split
  · next s1 h => rw [h] at hm; exact hm
  · next s1 h =>
    rw [h] at hm
    simp only []
    split
    · rw [State.endUnit_gen, State.addCycles_gen, State.stallSrcUpdate_gen]; exact hm
    · rw [State.addCycles_gen, State.stallSrcUpdate_gen]; exact hm

@[simp] theorem State.transferPhase_gen (s : State) (c : Ch) (n : Nat) : (s.transferPhase c n).gen = s.gen := by
  unfold State.transferPhase
  split
  · exact State.endUnit_gen s c
  · split
    · split <;> rfl
    · exact State.transferStep_gen s c _

@[simp] theorem State.moveN_vtlb (s : State) (c : Ch) (n : Nat) : (s.moveN c n).1.vtlb = s.vtlb := by
  induction n generalizing s with
  | zero => rfl
  | succ n ih =>
    unfold State.moveN
    split
    · rfl
    · next s1 h =>
      rw [ih, State.interleaveOne_vtlb, State.countOne_vtlb, State.moveOne_vtlb h]

@[simp] theorem State.transferStep_vtlb (s : State) (c : Ch) (n : Nat) : (s.transferStep c n).vtlb = s.vtlb := by
  have hm := State.moveN_vtlb s c n
  unfold State.transferStep
  split
  · next s1 h => rw [h] at hm; exact hm
  · next s1 h =>
    rw [h] at hm
    simp only []
    split
    · rw [State.endUnit_vtlb, State.addCycles_vtlb, State.stallSrcUpdate_vtlb]; exact hm
    · rw [State.addCycles_vtlb, State.stallSrcUpdate_vtlb]; exact hm

@[simp] theorem State.transferPhase_vtlb (s : State) (c : Ch) (n : Nat) : (s.transferPhase c n).vtlb = s.vtlb := by
  unfold State.transferPhase
  split
  · exact State.endUnit_vtlb s c
  · split
    · split <;> rfl
    · exact State.transferStep_vtlb s c _

@[simp] theorem State.moveN_refused (s : State) (c : Ch) (n : Nat) : (s.moveN c n).1.refused = s.refused := by
  induction n generalizing s with
  | zero => rfl
  | succ n ih =>
    unfold State.moveN
    split
    · rfl
    · next s1 h =>
      rw [ih, State.interleaveOne_refused, State.countOne_refused, State.moveOne_refused h]

@[simp] theorem State.transferStep_refused (s : State) (c : Ch) (n : Nat) : (s.transferStep c n).refused = s.refused := by
  have hm := State.moveN_refused s c n
  unfold State.transferStep
  split
  · next s1 h => rw [h] at hm; exact hm
  · next s1 h =>
    rw [h] at hm
    simp only []
    split
    · rw [State.endUnit_refused, State.addCycles_refused, State.stallSrcUpdate_refused]; exact hm
    · rw [State.addCycles_refused, State.stallSrcUpdate_refused]; exact hm

@[simp] theorem State.transferPhase_refused (s : State) (c : Ch) (n : Nat) : (s.transferPhase c n).refused = s.refused := by
  unfold State.transferPhase
  split
  · exact State.endUnit_refused s c
  · split
    · split <;> rfl
    · exact State.transferStep_refused s c _

@[simp] theorem State.moveN_params (s : State) (c : Ch) (n : Nat) : (s.moveN c n).1.params = s.params := by
  induction n generalizing s with
  | zero => rfl
  | succ n ih =>
    unfold State.moveN
    split
    · rfl
    · next s1 h =>
      rw [ih, State.interleaveOne_params, State.countOne_params, State.moveOne_params h]

@[simp] theorem State.transferStep_params (s : State) (c : Ch) (n : Nat) : (s.transferStep c n).params = s.params := by
  have hm := State.moveN_params s c n
  unfold State.transferStep
  split
  · next s1 h => rw [h] at hm; exact hm
  · next s1 h =>
    rw [h] at hm
    simp only []
    split
    · rw [State.endUnit_params, State.addCycles_params, State.stallSrcUpdate_params]; exact hm
    · rw [State.addCycles_params, State.stallSrcUpdate_params]; exact hm

@[simp] theorem State.transferPhase_params (s : State) (c : Ch) (n : Nat) : (s.transferPhase c n).params = s.params := by
  unfold State.transferPhase
  split
  · exact State.endUnit_params s c
  · split
    · split <;> rfl
    · exact State.transferStep_params s c _

@[simp] theorem State.moveN_env (s : State) (c : Ch) (n : Nat) : (s.moveN c n).1.env = s.env := by
  induction n generalizing s with
  | zero => rfl
  | succ n ih =>
    unfold State.moveN
    split
    · rfl
    · next s1 h =>
      rw [ih, State.interleaveOne_env, State.countOne_env, State.moveOne_env h]

@[simp] theorem State.transferStep_env (s : State) (c : Ch) (n : Nat) : (s.transferStep c n).env = s.env := by
  have hm := State.moveN_env s c n
  unfold State.transferStep
  split
  · next s1 h => rw [h] at hm; exact hm
  · next s1 h =>
    rw [h] at hm
    simp only []
    split
    · rw [State.endUnit_env, State.addCycles_env, State.stallSrcUpdate_env]; exact hm
    · rw [State.addCycles_env, State.stallSrcUpdate_env]; exact hm

@[simp] theorem State.transferPhase_env (s : State) (c : Ch) (n : Nat) : (s.transferPhase c n).env = s.env := by
  unfold State.transferPhase
  split
  · exact State.endUnit_env s c
  · split
    · split <;> rfl
    · exact State.transferStep_env s c _

theorem State.takeSrcTag_g (s : State) (c : SrcCh) (id : BitVec 3) (t : Tag) (rule : IdRule)
    (h : ∀ k T s, (rule k T t s).1.g = s.g) : (s.takeSrcTag c id t rule).g = s.g := by
  simp only [State.takeSrcTag, State.updEng_g, State.tteAction_g, h, State.updChan_g]

theorem State.takeSrcTag_gen (s : State) (c : SrcCh) (id : BitVec 3) (t : Tag) (rule : IdRule)
    (h : ∀ k T s, (rule k T t s).1.gen = s.gen) : (s.takeSrcTag c id t rule).gen = s.gen := by
  simp only [State.takeSrcTag, State.updEng_gen, State.tteAction_gen, h, State.updChan_gen]

theorem State.takeSrcTag_queued (s : State) (c : SrcCh) (id : BitVec 3) (t : Tag) (rule : IdRule)
    (h : ∀ k T s, (rule k T t s).1.queued = s.queued) : (s.takeSrcTag c id t rule).queued = s.queued := by
  simp only [State.takeSrcTag, State.updEng_queued, State.tteAction_queued, h, State.updChan_queued]

theorem State.takeSrcTag_ev (s : State) (c : SrcCh) (id : BitVec 3) (t : Tag) (rule : IdRule)
    (h : ∀ k T s, (rule k T t s).1.ev = s.ev) : (s.takeSrcTag c id t rule).ev = s.ev := by
  simp only [State.takeSrcTag, State.updEng_ev, State.tteAction_ev, h, State.updChan_ev]

theorem State.takeSrcTag_ipu (s : State) (c : SrcCh) (id : BitVec 3) (t : Tag) (rule : IdRule)
    (h : ∀ k T s, (rule k T t s).1.ipu = s.ipu) : (s.takeSrcTag c id t rule).ipu = s.ipu := by
  simp only [State.takeSrcTag, State.updEng_ipu, State.tteAction_ipu, h, State.updChan_ipu]

theorem State.takeSrcTag_vtlb (s : State) (c : SrcCh) (id : BitVec 3) (t : Tag) (rule : IdRule)
    (h : ∀ k T s, (rule k T t s).1.vtlb = s.vtlb) : (s.takeSrcTag c id t rule).vtlb = s.vtlb := by
  simp only [State.takeSrcTag, State.updEng_vtlb, State.tteAction_vtlb, h, State.updChan_vtlb]

theorem State.takeSrcTag_refused (s : State) (c : SrcCh) (id : BitVec 3) (t : Tag) (rule : IdRule)
    (h : ∀ k T s, (rule k T t s).1.refused = s.refused) : (s.takeSrcTag c id t rule).refused = s.refused := by
  simp only [State.takeSrcTag, State.updEng_refused, State.tteAction_refused, h, State.updChan_refused]

theorem State.takeSrcTag_params (s : State) (c : SrcCh) (id : BitVec 3) (t : Tag) (rule : IdRule)
    (h : ∀ k T s, (rule k T t s).1.params = s.params) : (s.takeSrcTag c id t rule).params = s.params := by
  simp only [State.takeSrcTag, State.updEng_params, State.tteAction_params, h, State.updChan_params]

theorem ruleCall_g (k : Ch) (T : Word) (t : Tag) (s : State) : (ruleCall k T t s).1.g = s.g := by
  unfold ruleCall; split <;> rfl
theorem ruleRet_g (k : Ch) (T : Word) (t : Tag) (s : State) : (ruleRet k T t s).1.g = s.g := by
  unfold ruleRet; split <;> rfl
theorem ruleCall_gen (k : Ch) (T : Word) (t : Tag) (s : State) : (ruleCall k T t s).1.gen = s.gen := by
  unfold ruleCall; split <;> rfl
theorem ruleRet_gen (k : Ch) (T : Word) (t : Tag) (s : State) : (ruleRet k T t s).1.gen = s.gen := by
  unfold ruleRet; split <;> rfl
theorem ruleCall_eng (k : Ch) (T : Word) (t : Tag) (s : State) : (ruleCall k T t s).1.eng = s.eng := by
  unfold ruleCall; split <;> rfl
theorem ruleRet_eng (k : Ch) (T : Word) (t : Tag) (s : State) : (ruleRet k T t s).1.eng = s.eng := by
  unfold ruleRet; split <;> rfl
theorem ruleCall_queued (k : Ch) (T : Word) (t : Tag) (s : State) : (ruleCall k T t s).1.queued = s.queued := by
  unfold ruleCall; split <;> rfl
theorem ruleRet_queued (k : Ch) (T : Word) (t : Tag) (s : State) : (ruleRet k T t s).1.queued = s.queued := by
  unfold ruleRet; split <;> rfl
theorem ruleCall_ev (k : Ch) (T : Word) (t : Tag) (s : State) : (ruleCall k T t s).1.ev = s.ev := by
  unfold ruleCall; split <;> rfl
theorem ruleRet_ev (k : Ch) (T : Word) (t : Tag) (s : State) : (ruleRet k T t s).1.ev = s.ev := by
  unfold ruleRet; split <;> rfl
theorem ruleCall_sif (k : Ch) (T : Word) (t : Tag) (s : State) : (ruleCall k T t s).1.sif = s.sif := by
  unfold ruleCall; split <;> rfl
theorem ruleRet_sif (k : Ch) (T : Word) (t : Tag) (s : State) : (ruleRet k T t s).1.sif = s.sif := by
  unfold ruleRet; split <;> rfl
theorem ruleCall_ipu (k : Ch) (T : Word) (t : Tag) (s : State) : (ruleCall k T t s).1.ipu = s.ipu := by
  unfold ruleCall; split <;> rfl
theorem ruleRet_ipu (k : Ch) (T : Word) (t : Tag) (s : State) : (ruleRet k T t s).1.ipu = s.ipu := by
  unfold ruleRet; split <;> rfl
theorem ruleCall_mem (k : Ch) (T : Word) (t : Tag) (s : State) : (ruleCall k T t s).1.mem = s.mem := by
  unfold ruleCall; split <;> rfl
theorem ruleRet_mem (k : Ch) (T : Word) (t : Tag) (s : State) : (ruleRet k T t s).1.mem = s.mem := by
  unfold ruleRet; split <;> rfl
theorem ruleCall_vtlb (k : Ch) (T : Word) (t : Tag) (s : State) : (ruleCall k T t s).1.vtlb = s.vtlb := by
  unfold ruleCall; split <;> rfl
theorem ruleRet_vtlb (k : Ch) (T : Word) (t : Tag) (s : State) : (ruleRet k T t s).1.vtlb = s.vtlb := by
  unfold ruleRet; split <;> rfl
theorem ruleCall_faults (k : Ch) (T : Word) (t : Tag) (s : State) : (ruleCall k T t s).1.faults = s.faults := by
  unfold ruleCall; split <;> rfl
theorem ruleRet_faults (k : Ch) (T : Word) (t : Tag) (s : State) : (ruleRet k T t s).1.faults = s.faults := by
  unfold ruleRet; split <;> rfl
theorem ruleCall_refused (k : Ch) (T : Word) (t : Tag) (s : State) : (ruleCall k T t s).1.refused = s.refused := by
  unfold ruleCall; split <;> rfl
theorem ruleRet_refused (k : Ch) (T : Word) (t : Tag) (s : State) : (ruleRet k T t s).1.refused = s.refused := by
  unfold ruleRet; split <;> rfl
theorem ruleCall_params (k : Ch) (T : Word) (t : Tag) (s : State) : (ruleCall k T t s).1.params = s.params := by
  unfold ruleCall; split <;> rfl
theorem ruleRet_params (k : Ch) (T : Word) (t : Tag) (s : State) : (ruleRet k T t s).1.params = s.params := by
  unfold ruleRet; split <;> rfl

end Sys2Proof.Machine
end

