-- ==== Sys2Proof/Laws/Exec.lean ====
section
/-!
SUPPORT. What `exec` can do, said once: every instruction is one of eleven forms over the shared operations. A proof about
all instructions takes `exec_form` apart instead of 191 constructors.
-/

namespace Sys2Proof.Machine

/-! ### The register operations by channel and register -/

theorem exec_swChan (c : Ch) (r : ChanReg) (v : Word) (s : State) :
    exec (.swChan c r v) s = .next (s.chanWrite c r v) := by cases c <;> cases r <;> rfl

theorem exec_lwChan (c : Ch) (r : ChanReg) (s : State) :
    exec (.lwChan c r) s = .next (s.setRet (.word ((s.chan.get c).read r))) := by cases c <;> cases r <;> rfl

theorem exec_swGlobal (g : GlobalReg) (v : Word) (s : State) :
    exec (.swGlobal g v) s = .next (s.globalWrite g v) := by cases g <;> rfl

theorem exec_lwGlobal (g : GlobalReg) (s : State) :
    exec (.lwGlobal g) s = .next (s.setRet (.word (s.g.read g))) := by cases g <;> rfl

/-! ### The forms -/

/-- The rules that source tags run with, by ID. -/
inductive SrcRule : BitVec 3 → IdRule → Prop where
  | refe : SrcRule 0 ruleRefe
  | cnt : SrcRule 1 ruleCnt
  | next : SrcRule 2 ruleNext
  | ref : SrcRule 3 ruleRef
  | refs : SrcRule 4 ruleRef
  | call : SrcRule 5 ruleCall
  | ret : SrcRule 6 ruleRet
  | last : SrcRule 7 ruleEnd

/-- The forms of `exec i s`. -/
inductive ExecForm (s : State) : Instr → Result → Prop where
  | swChan (c : Ch) (r : ChanReg) (v : Word) : ExecForm s (.swChan c r v) (.next (s.chanWrite c r v))
  | lwChan (c : Ch) (r : ChanReg) :
      ExecForm s (.lwChan c r) (.next (s.setRet (.word ((s.chan.get c).read r))))
  | swGlobal (g : GlobalReg) (v : Word) : ExecForm s (.swGlobal g v) (.next (s.globalWrite g v))
  | lwGlobal (g : GlobalReg) : ExecForm s (.lwGlobal g) (.next (s.setRet (.word (s.g.read g))))
  | swGen (a v : Word) : ExecForm s (.swGen a v) (execSwGen a v s)
  | lwGen (a : Word) : ExecForm s (.lwGen a) (execLwGen a s)
  | srcTag (i : Instr) (c : SrcCh) (id : BitVec 3) (t : Tag) (rule : IdRule) (h : SrcRule id rule)
      (hi : i.port = .srcTag c) : ExecForm s i (.next (s.takeSrcTag c id t rule))
  | srcStall (c : SrcCh) (t : Tag) (h : stallDrain s.g.ctrl = some c.toCh) (hb : s.stallBlocked t.a t.qwc = true) :
      ExecForm s (.srcRefs c t) (.next (s.stallEnter c.toCh))
  | dstTag (i : Instr) (c : DstCh) (id : BitVec 3) (t : Tag) (last cnts : Bool) (hi : i.port = .dstTag c) :
      ExecForm s i (.next (s.takeDstTag c id t last cnts))
  | iopTagSif0 (t : IopTag) : ExecForm s (.iopTagSif0 t) (execIopTagSif0 t s)
  | iopTagSif1 (t : IopTag) : ExecForm s (.iopTagSif1 t) (execIopTagSif1 t s)
  | load (i : Instr) (w : Width) (sign : Bool) (va : Word) (hi : i.port = .dispatch) :
      ExecForm s i (dispatchLoad w sign va s)
  | store (i : Instr) (w : Width) (va : Word) (v : Quad) (hi : i.port = .dispatch) :
      ExecForm s i (dispatchStore w va v s)

/-- Every instruction has one of the forms. -/
theorem exec_form (i : Instr) (s : State) : ExecForm s i (exec i s) := by
  cases i
  case srcRefe c t => exact .srcTag _ c 0 t _ .refe rfl
  case srcCnt c t => exact .srcTag _ c 1 t _ .cnt rfl
  case srcNext c t => exact .srcTag _ c 2 t _ .next rfl
  case srcRef c t => exact .srcTag _ c 3 t _ .ref rfl
  case srcRefs c t =>
    change ExecForm s _ (execSrcRefs c t s)
    unfold execSrcRefs
    split
    · next h => exact .srcStall c t h.1 h.2
    · exact .srcTag _ c 4 t _ .refs rfl
  case srcCall c t => exact .srcTag _ c 5 t _ .call rfl
  case srcRet c t => exact .srcTag _ c 6 t _ .ret rfl
  case srcEnd c t => exact .srcTag _ c 7 t _ .last rfl
  case dstCnts c t => exact .dstTag _ c 0 t false true rfl
  case dstCnt c t => exact .dstTag _ c 1 t false false rfl
  case dstRsv2 c t => exact .dstTag _ c 2 t false false rfl
  case dstRsv3 c t => exact .dstTag _ c 3 t false false rfl
  case dstRsv4 c t => exact .dstTag _ c 4 t false false rfl
  case dstRsv5 c t => exact .dstTag _ c 5 t false false rfl
  case dstRsv6 c t => exact .dstTag _ c 6 t false false rfl
  case dstEnd c t => exact .dstTag _ c 7 t true false rfl
  case iopTagSif0 t => exact .iopTagSif0 t
  case iopTagSif1 t => exact .iopTagSif1 t
  case swGen a v => exact .swGen a v
  case lwGen a => exact .lwGen a
  case load8u va => exact .load _ .w8 false va rfl
  case load8s va => exact .load _ .w8 true va rfl
  case load16u va => exact .load _ .w16 false va rfl
  case load16s va => exact .load _ .w16 true va rfl
  case load32u va => exact .load _ .w32 false va rfl
  case load32s va => exact .load _ .w32 true va rfl
  case load64 va => exact .load _ .w64 false va rfl
  case load128 va => exact .load _ .w128 false va rfl
  case store8 va v => exact .store _ .w8 va v rfl
  case store16 va v => exact .store _ .w16 va v rfl
  case store32 va v => exact .store _ .w32 va v rfl
  case store64 va v => exact .store _ .w64 va v rfl
  case store128 va v => exact .store _ .w128 va v rfl
  case swD0Chcr v => exact .swChan .vif0 .chcr v
  case lwD0Chcr => exact .lwChan .vif0 .chcr
  case swD0Madr v => exact .swChan .vif0 .madr v
  case lwD0Madr => exact .lwChan .vif0 .madr
  case swD0Qwc v => exact .swChan .vif0 .qwc v
  case lwD0Qwc => exact .lwChan .vif0 .qwc
  case swD0Tadr v => exact .swChan .vif0 .tadr v
  case lwD0Tadr => exact .lwChan .vif0 .tadr
  case swD0Asr0 v => exact .swChan .vif0 .asr0 v
  case lwD0Asr0 => exact .lwChan .vif0 .asr0
  case swD0Asr1 v => exact .swChan .vif0 .asr1 v
  case lwD0Asr1 => exact .lwChan .vif0 .asr1
  case swD0Sadr v => exact .swChan .vif0 .sadr v
  case lwD0Sadr => exact .lwChan .vif0 .sadr
  case swD1Chcr v => exact .swChan .vif1 .chcr v
  case lwD1Chcr => exact .lwChan .vif1 .chcr
  case swD1Madr v => exact .swChan .vif1 .madr v
  case lwD1Madr => exact .lwChan .vif1 .madr
  case swD1Qwc v => exact .swChan .vif1 .qwc v
  case lwD1Qwc => exact .lwChan .vif1 .qwc
  case swD1Tadr v => exact .swChan .vif1 .tadr v
  case lwD1Tadr => exact .lwChan .vif1 .tadr
  case swD1Asr0 v => exact .swChan .vif1 .asr0 v
  case lwD1Asr0 => exact .lwChan .vif1 .asr0
  case swD1Asr1 v => exact .swChan .vif1 .asr1 v
  case lwD1Asr1 => exact .lwChan .vif1 .asr1
  case swD1Sadr v => exact .swChan .vif1 .sadr v
  case lwD1Sadr => exact .lwChan .vif1 .sadr
  case swD2Chcr v => exact .swChan .gif .chcr v
  case lwD2Chcr => exact .lwChan .gif .chcr
  case swD2Madr v => exact .swChan .gif .madr v
  case lwD2Madr => exact .lwChan .gif .madr
  case swD2Qwc v => exact .swChan .gif .qwc v
  case lwD2Qwc => exact .lwChan .gif .qwc
  case swD2Tadr v => exact .swChan .gif .tadr v
  case lwD2Tadr => exact .lwChan .gif .tadr
  case swD2Asr0 v => exact .swChan .gif .asr0 v
  case lwD2Asr0 => exact .lwChan .gif .asr0
  case swD2Asr1 v => exact .swChan .gif .asr1 v
  case lwD2Asr1 => exact .lwChan .gif .asr1
  case swD2Sadr v => exact .swChan .gif .sadr v
  case lwD2Sadr => exact .lwChan .gif .sadr
  case swD3Chcr v => exact .swChan .ipu0 .chcr v
  case lwD3Chcr => exact .lwChan .ipu0 .chcr
  case swD3Madr v => exact .swChan .ipu0 .madr v
  case lwD3Madr => exact .lwChan .ipu0 .madr
  case swD3Qwc v => exact .swChan .ipu0 .qwc v
  case lwD3Qwc => exact .lwChan .ipu0 .qwc
  case swD3Tadr v => exact .swChan .ipu0 .tadr v
  case lwD3Tadr => exact .lwChan .ipu0 .tadr
  case swD3Asr0 v => exact .swChan .ipu0 .asr0 v
  case lwD3Asr0 => exact .lwChan .ipu0 .asr0
  case swD3Asr1 v => exact .swChan .ipu0 .asr1 v
  case lwD3Asr1 => exact .lwChan .ipu0 .asr1
  case swD3Sadr v => exact .swChan .ipu0 .sadr v
  case lwD3Sadr => exact .lwChan .ipu0 .sadr
  case swD4Chcr v => exact .swChan .ipu1 .chcr v
  case lwD4Chcr => exact .lwChan .ipu1 .chcr
  case swD4Madr v => exact .swChan .ipu1 .madr v
  case lwD4Madr => exact .lwChan .ipu1 .madr
  case swD4Qwc v => exact .swChan .ipu1 .qwc v
  case lwD4Qwc => exact .lwChan .ipu1 .qwc
  case swD4Tadr v => exact .swChan .ipu1 .tadr v
  case lwD4Tadr => exact .lwChan .ipu1 .tadr
  case swD4Asr0 v => exact .swChan .ipu1 .asr0 v
  case lwD4Asr0 => exact .lwChan .ipu1 .asr0
  case swD4Asr1 v => exact .swChan .ipu1 .asr1 v
  case lwD4Asr1 => exact .lwChan .ipu1 .asr1
  case swD4Sadr v => exact .swChan .ipu1 .sadr v
  case lwD4Sadr => exact .lwChan .ipu1 .sadr
  case swD5Chcr v => exact .swChan .sif0 .chcr v
  case lwD5Chcr => exact .lwChan .sif0 .chcr
  case swD5Madr v => exact .swChan .sif0 .madr v
  case lwD5Madr => exact .lwChan .sif0 .madr
  case swD5Qwc v => exact .swChan .sif0 .qwc v
  case lwD5Qwc => exact .lwChan .sif0 .qwc
  case swD5Tadr v => exact .swChan .sif0 .tadr v
  case lwD5Tadr => exact .lwChan .sif0 .tadr
  case swD5Asr0 v => exact .swChan .sif0 .asr0 v
  case lwD5Asr0 => exact .lwChan .sif0 .asr0
  case swD5Asr1 v => exact .swChan .sif0 .asr1 v
  case lwD5Asr1 => exact .lwChan .sif0 .asr1
  case swD5Sadr v => exact .swChan .sif0 .sadr v
  case lwD5Sadr => exact .lwChan .sif0 .sadr
  case swD6Chcr v => exact .swChan .sif1 .chcr v
  case lwD6Chcr => exact .lwChan .sif1 .chcr
  case swD6Madr v => exact .swChan .sif1 .madr v
  case lwD6Madr => exact .lwChan .sif1 .madr
  case swD6Qwc v => exact .swChan .sif1 .qwc v
  case lwD6Qwc => exact .lwChan .sif1 .qwc
  case swD6Tadr v => exact .swChan .sif1 .tadr v
  case lwD6Tadr => exact .lwChan .sif1 .tadr
  case swD6Asr0 v => exact .swChan .sif1 .asr0 v
  case lwD6Asr0 => exact .lwChan .sif1 .asr0
  case swD6Asr1 v => exact .swChan .sif1 .asr1 v
  case lwD6Asr1 => exact .lwChan .sif1 .asr1
  case swD6Sadr v => exact .swChan .sif1 .sadr v
  case lwD6Sadr => exact .lwChan .sif1 .sadr
  case swD7Chcr v => exact .swChan .sif2 .chcr v
  case lwD7Chcr => exact .lwChan .sif2 .chcr
  case swD7Madr v => exact .swChan .sif2 .madr v
  case lwD7Madr => exact .lwChan .sif2 .madr
  case swD7Qwc v => exact .swChan .sif2 .qwc v
  case lwD7Qwc => exact .lwChan .sif2 .qwc
  case swD7Tadr v => exact .swChan .sif2 .tadr v
  case lwD7Tadr => exact .lwChan .sif2 .tadr
  case swD7Asr0 v => exact .swChan .sif2 .asr0 v
  case lwD7Asr0 => exact .lwChan .sif2 .asr0
  case swD7Asr1 v => exact .swChan .sif2 .asr1 v
  case lwD7Asr1 => exact .lwChan .sif2 .asr1
  case swD7Sadr v => exact .swChan .sif2 .sadr v
  case lwD7Sadr => exact .lwChan .sif2 .sadr
  case swD8Chcr v => exact .swChan .spr0 .chcr v
  case lwD8Chcr => exact .lwChan .spr0 .chcr
  case swD8Madr v => exact .swChan .spr0 .madr v
  case lwD8Madr => exact .lwChan .spr0 .madr
  case swD8Qwc v => exact .swChan .spr0 .qwc v
  case lwD8Qwc => exact .lwChan .spr0 .qwc
  case swD8Tadr v => exact .swChan .spr0 .tadr v
  case lwD8Tadr => exact .lwChan .spr0 .tadr
  case swD8Asr0 v => exact .swChan .spr0 .asr0 v
  case lwD8Asr0 => exact .lwChan .spr0 .asr0
  case swD8Asr1 v => exact .swChan .spr0 .asr1 v
  case lwD8Asr1 => exact .lwChan .spr0 .asr1
  case swD8Sadr v => exact .swChan .spr0 .sadr v
  case lwD8Sadr => exact .lwChan .spr0 .sadr
  case swD9Chcr v => exact .swChan .spr1 .chcr v
  case lwD9Chcr => exact .lwChan .spr1 .chcr
  case swD9Madr v => exact .swChan .spr1 .madr v
  case lwD9Madr => exact .lwChan .spr1 .madr
  case swD9Qwc v => exact .swChan .spr1 .qwc v
  case lwD9Qwc => exact .lwChan .spr1 .qwc
  case swD9Tadr v => exact .swChan .spr1 .tadr v
  case lwD9Tadr => exact .lwChan .spr1 .tadr
  case swD9Asr0 v => exact .swChan .spr1 .asr0 v
  case lwD9Asr0 => exact .lwChan .spr1 .asr0
  case swD9Asr1 v => exact .swChan .spr1 .asr1 v
  case lwD9Asr1 => exact .lwChan .spr1 .asr1
  case swD9Sadr v => exact .swChan .spr1 .sadr v
  case lwD9Sadr => exact .lwChan .spr1 .sadr
  case swCtrl v => exact .swGlobal .ctrl v
  case lwCtrl => exact .lwGlobal .ctrl
  case swStat v => exact .swGlobal .stat v
  case lwStat => exact .lwGlobal .stat
  case swPcr v => exact .swGlobal .pcr v
  case lwPcr => exact .lwGlobal .pcr
  case swSqwc v => exact .swGlobal .sqwc v
  case lwSqwc => exact .lwGlobal .sqwc
  case swRbsr v => exact .swGlobal .rbsr v
  case lwRbsr => exact .lwGlobal .rbsr
  case swRbor v => exact .swGlobal .rbor v
  case lwRbor => exact .lwGlobal .rbor
  case swStadr v => exact .swGlobal .stadr v
  case lwStadr => exact .lwGlobal .stadr
  case swEnabler v => exact .swGlobal .enabler v
  case lwEnabler => exact .lwGlobal .enabler
  case swEnablew v => exact .swGlobal .enablew v
  case lwEnablew => exact .lwGlobal .enablew

end Sys2Proof.Machine
end

