-- ==== Sys2Proof/Laws/Moves.lean ====
section
/-!
SUPPORT. What the moves of a transfer step can do (42_channel_engines.md R325, R327): they read and write none of the model's
own fields, they compose, and each advances its channel's memory-side address.
-/

namespace Sys2Proof.Machine

/-- `s` with other fields of the model's own. -/
def State.withEnv (s : State) (e : Env) : State := { s with env := e }

theorem State.moveToMemory_withEnv (s : State) (e : Env) (c : Ch) (take : State → Quad × State)
    (ht : ∀ t, take (t.withEnv e) = ((take t).1, (take t).2.withEnv e)) :
    (s.withEnv e).moveToMemory c take = (s.moveToMemory c take).map (·.withEnv e) := by
  unfold State.moveToMemory
  rw [show (s.withEnv e).dmaAddr ((s.withEnv e).memAddr c) true = s.dmaAddr (s.memAddr c) true from rfl, ht]
  cases s.dmaAddr (s.memAddr c) true <;> rfl

theorem State.moveFromMemory_withEnv (s : State) (e : Env) (c : Ch) (give : Quad → State → State)
    (hg : ∀ q t, give q (t.withEnv e) = (give q t).withEnv e) :
    (s.withEnv e).moveFromMemory c give = (s.moveFromMemory c give).map (·.withEnv e) := by
  unfold State.moveFromMemory
  rw [show (s.withEnv e).dmaAddr ((s.withEnv e).memAddr c) false = s.dmaAddr (s.memAddr c) false from rfl]
  cases s.dmaAddr (s.memAddr c) false with
  | none => rfl
  | some l => simp only [hg]; rfl

theorem State.takeSif_withEnv (f : Sif) (s : State) (e : Env) :
    State.takeSif f (s.withEnv e) = ((State.takeSif f s).1, (State.takeSif f s).2.withEnv e) := by
  have h : (s.withEnv e).sifPop f 4 = ((s.sifPop f 4).1, (s.sifPop f 4).2.withEnv e) := by
    unfold State.sifPop
    rw [show (s.withEnv e).sifSize f = s.sifSize f from rfl]
    split <;> rfl
  unfold State.takeSif
  rw [h]

theorem State.giveSif_withEnv (f : Sif) (q : Quad) (s : State) (e : Env) :
    State.giveSif f q (s.withEnv e) = (State.giveSif f q s).withEnv e := by
  unfold State.giveSif State.sifPush
  rw [show (s.withEnv e).sifFree f = s.sifFree f from rfl]
  split <;> rfl

/-- A move reads and writes none of the model's own fields. -/
theorem State.moveOne_withEnv (s : State) (e : Env) (c : Ch) :
    (s.withEnv e).moveOne c = (s.moveOne c).map (·.withEnv e) := by
  cases c <;> simp only [State.moveOne]
  case vif0 | vif1 | gif => rfl
  case ipu0 =>
    refine State.moveToMemory_withEnv _ _ _ _ fun t => ?_
    unfold State.ipuOutPop
    rw [show (t.withEnv e).ipu = t.ipu from rfl]
    split <;> rfl
  case ipu1 =>
    refine State.moveFromMemory_withEnv _ _ _ _ fun q t => ?_
    unfold State.ipuInPush
    rw [show (t.withEnv e).ipuInFree = t.ipuInFree from rfl]
    split <;> rfl
  case sif0 => exact State.moveToMemory_withEnv _ _ _ _ fun t => State.takeSif_withEnv _ t e
  case sif1 => exact State.moveFromMemory_withEnv _ _ _ _ fun q t => State.giveSif_withEnv _ q t e
  case sif2 =>
    rw [show (s.withEnv e).chan = s.chan from rfl]
    split
    · exact State.moveFromMemory_withEnv _ _ _ _ fun q t => State.giveSif_withEnv _ q t e
    · exact State.moveToMemory_withEnv _ _ _ _ fun t => State.takeSif_withEnv _ t e
  case spr0 => exact State.moveToMemory_withEnv _ _ _ _ fun _ => rfl
  case spr1 => exact State.moveFromMemory_withEnv _ _ _ _ fun _ _ => rfl

theorem State.interleaveOne_withEnv (s : State) (e : Env) (c : Ch) :
    (s.withEnv e).interleaveOne c = (s.interleaveOne c).withEnv e := by
  unfold State.interleaveOne
  rw [show (s.withEnv e).eng = s.eng from rfl, show (s.withEnv e).g = s.g from rfl]
  split
  · simp only []
    split <;> rfl
  · rfl

/-- The moves of a step read and write none of the model's own fields. -/
theorem State.moveN_withEnv (s : State) (e : Env) (c : Ch) (n : Nat) :
    (s.withEnv e).moveN c n = ((s.moveN c n).1.withEnv e, (s.moveN c n).2) := by
  induction n generalizing s with
  | zero => rfl
  | succ n ih =>
    unfold State.moveN
    rw [State.moveOne_withEnv]
    cases s.moveOne c with
    | none => rfl
    | some s1 =>
      simp only [Option.map_some]
      rw [show (s1.withEnv e).countOne c = (s1.countOne c).withEnv e from rfl, State.interleaveOne_withEnv, ih]

/-- Moves compose: `k` and then `m` more. -/
theorem State.moveN_add {s s1 : State} {c : Ch} {k : Nat} (h : s.moveN c k = (s1, true)) (m : Nat) :
    s.moveN c (k + m) = s1.moveN c m := by
  induction k generalizing s with
  | zero => cases h; rw [Nat.zero_add]
  | succ k ih =>
    rw [show k + 1 + m = (k + m) + 1 by omega]
    rw [State.moveN] at h ⊢
    cases h1 : s.moveOne c with
    | none => rw [h1] at h; cases h
    | some s2 => rw [h1] at h; exact ih h

/-- Moves that met a bus error: some quadwords moved, and the next one's address resolved to nothing. -/
theorem State.moveN_false {s t : State} {c : Ch} {n : Nat} (h : s.moveN c n = (t, false)) :
    ∃ k s1, k < n ∧ s.moveN c k = (s1, true) ∧ s1.moveOne c = none ∧ t = s1.busError c := by
  induction n generalizing s with
  | zero => cases h
  | succ n ih =>
    rw [State.moveN] at h
    cases h1 : s.moveOne c with
    | none => rw [h1] at h; cases h; exact ⟨0, s, Nat.succ_pos n, rfl, h1, rfl⟩
    | some s2 =>
      rw [h1] at h
      obtain ⟨k, s1, hk, hm, hn, ht⟩ := ih h
      refine ⟨k + 1, s1, Nat.succ_lt_succ hk, ?_, hn, ht⟩
      rw [State.moveN, h1]
      exact hm

theorem State.moveToMemory_none {s : State} {c : Ch} {take : State → Quad × State} :
    s.moveToMemory c take = none ↔ s.dmaAddr (s.memAddr c) true = none := by
  unfold State.moveToMemory
  cases s.dmaAddr (s.memAddr c) true with
  | none => exact ⟨fun _ => rfl, fun _ => rfl⟩
  | some l => exact ⟨fun h => (nomatch h), fun h => (nomatch h)⟩

theorem State.moveFromMemory_none {s : State} {c : Ch} {give : Quad → State → State} :
    s.moveFromMemory c give = none ↔ s.dmaAddr (s.memAddr c) false = none := by
  unfold State.moveFromMemory
  cases s.dmaAddr (s.memAddr c) false with
  | none => exact ⟨fun _ => rfl, fun _ => rfl⟩
  | some l => exact ⟨fun h => (nomatch h), fun h => (nomatch h)⟩

/-- The stall source's update changes STADR only. -/
theorem State.stallSrcUpdate_eq (s : State) (c : Ch) :
    s.stallSrcUpdate c = { s with g := { s.g with stadr := (s.stallSrcUpdate c).g.stadr } } := by
  unfold State.stallSrcUpdate
  simp only []
  split <;> rfl

end Sys2Proof.Machine
end

