-- ==== Sys2Proof/Laws/PerInstr.lean ====
section
/-!
SUPPORT. A law of every instruction, one lemma per constructor: an instruction's encoding has as many bytes as its port
reads (30_encoding.md R197 for the tags; the host's commands as log 17 lays them out).
-/

namespace Sys2Proof.Laws.EncodedLength

/-- The encoding of `i` is exactly as long as the instructions of its port. -/
def Statement (i : Instr) : Prop := (encode i).length = i.port.length

/-- A tag is one quadword. -/
theorem of_tag (q : Quad) : (leBytes 16 q).length = 16 := length_leBytes 16 q

/-- A register write is an address and a value. -/
theorem of_write (a v : Word) : (encodeWrite a v).length = 8 := by
  rw [encodeWrite, List.length_append, length_leBytes, length_leBytes]

/-- A register read is an address. -/
theorem of_read (a : Word) : (encodeRead a).length = 4 := length_leBytes 4 _

/-- A dispatcher call is a selector, a guest address and a value. -/
theorem of_dispatch (sel : BitVec 5) (va : Word) (v : Quad) : (encodeDispatch sel va v).length = 21 := by
  rw [encodeDispatch, List.length_append, List.length_append, length_leBytes, length_leBytes, length_leBytes]

theorem srcRefe (c : SrcCh) (t : Tag) : Statement (.srcRefe c t) := of_tag _
theorem srcCnt (c : SrcCh) (t : Tag) : Statement (.srcCnt c t) := of_tag _
theorem srcNext (c : SrcCh) (t : Tag) : Statement (.srcNext c t) := of_tag _
theorem srcRef (c : SrcCh) (t : Tag) : Statement (.srcRef c t) := of_tag _
theorem srcRefs (c : SrcCh) (t : Tag) : Statement (.srcRefs c t) := of_tag _
theorem srcCall (c : SrcCh) (t : Tag) : Statement (.srcCall c t) := of_tag _
theorem srcRet (c : SrcCh) (t : Tag) : Statement (.srcRet c t) := of_tag _
theorem srcEnd (c : SrcCh) (t : Tag) : Statement (.srcEnd c t) := of_tag _
theorem dstCnts (c : DstCh) (t : Tag) : Statement (.dstCnts c t) := of_tag _
theorem dstCnt (c : DstCh) (t : Tag) : Statement (.dstCnt c t) := of_tag _
theorem dstRsv2 (c : DstCh) (t : Tag) : Statement (.dstRsv2 c t) := of_tag _
theorem dstRsv3 (c : DstCh) (t : Tag) : Statement (.dstRsv3 c t) := of_tag _
theorem dstRsv4 (c : DstCh) (t : Tag) : Statement (.dstRsv4 c t) := of_tag _
theorem dstRsv5 (c : DstCh) (t : Tag) : Statement (.dstRsv5 c t) := of_tag _
theorem dstRsv6 (c : DstCh) (t : Tag) : Statement (.dstRsv6 c t) := of_tag _
theorem dstEnd (c : DstCh) (t : Tag) : Statement (.dstEnd c t) := of_tag _
theorem iopTagSif0 (t : IopTag) : Statement (.iopTagSif0 t) := of_tag _
theorem iopTagSif1 (t : IopTag) : Statement (.iopTagSif1 t) := of_tag _
theorem swD0Chcr (v : Word) : Statement (.swD0Chcr v) := of_write _ _
theorem lwD0Chcr : Statement .lwD0Chcr := of_read _
theorem swD0Madr (v : Word) : Statement (.swD0Madr v) := of_write _ _
theorem lwD0Madr : Statement .lwD0Madr := of_read _
theorem swD0Qwc (v : Word) : Statement (.swD0Qwc v) := of_write _ _
theorem lwD0Qwc : Statement .lwD0Qwc := of_read _
theorem swD0Tadr (v : Word) : Statement (.swD0Tadr v) := of_write _ _
theorem lwD0Tadr : Statement .lwD0Tadr := of_read _
theorem swD0Asr0 (v : Word) : Statement (.swD0Asr0 v) := of_write _ _
theorem lwD0Asr0 : Statement .lwD0Asr0 := of_read _
theorem swD0Asr1 (v : Word) : Statement (.swD0Asr1 v) := of_write _ _
theorem lwD0Asr1 : Statement .lwD0Asr1 := of_read _
theorem swD0Sadr (v : Word) : Statement (.swD0Sadr v) := of_write _ _
theorem lwD0Sadr : Statement .lwD0Sadr := of_read _
theorem swD1Chcr (v : Word) : Statement (.swD1Chcr v) := of_write _ _
theorem lwD1Chcr : Statement .lwD1Chcr := of_read _
theorem swD1Madr (v : Word) : Statement (.swD1Madr v) := of_write _ _
theorem lwD1Madr : Statement .lwD1Madr := of_read _
theorem swD1Qwc (v : Word) : Statement (.swD1Qwc v) := of_write _ _
theorem lwD1Qwc : Statement .lwD1Qwc := of_read _
theorem swD1Tadr (v : Word) : Statement (.swD1Tadr v) := of_write _ _
theorem lwD1Tadr : Statement .lwD1Tadr := of_read _
theorem swD1Asr0 (v : Word) : Statement (.swD1Asr0 v) := of_write _ _
theorem lwD1Asr0 : Statement .lwD1Asr0 := of_read _
theorem swD1Asr1 (v : Word) : Statement (.swD1Asr1 v) := of_write _ _
theorem lwD1Asr1 : Statement .lwD1Asr1 := of_read _
theorem swD1Sadr (v : Word) : Statement (.swD1Sadr v) := of_write _ _
theorem lwD1Sadr : Statement .lwD1Sadr := of_read _
theorem swD2Chcr (v : Word) : Statement (.swD2Chcr v) := of_write _ _
theorem lwD2Chcr : Statement .lwD2Chcr := of_read _
theorem swD2Madr (v : Word) : Statement (.swD2Madr v) := of_write _ _
theorem lwD2Madr : Statement .lwD2Madr := of_read _
theorem swD2Qwc (v : Word) : Statement (.swD2Qwc v) := of_write _ _
theorem lwD2Qwc : Statement .lwD2Qwc := of_read _
theorem swD2Tadr (v : Word) : Statement (.swD2Tadr v) := of_write _ _
theorem lwD2Tadr : Statement .lwD2Tadr := of_read _
theorem swD2Asr0 (v : Word) : Statement (.swD2Asr0 v) := of_write _ _
theorem lwD2Asr0 : Statement .lwD2Asr0 := of_read _
theorem swD2Asr1 (v : Word) : Statement (.swD2Asr1 v) := of_write _ _
theorem lwD2Asr1 : Statement .lwD2Asr1 := of_read _
theorem swD2Sadr (v : Word) : Statement (.swD2Sadr v) := of_write _ _
theorem lwD2Sadr : Statement .lwD2Sadr := of_read _
theorem swD3Chcr (v : Word) : Statement (.swD3Chcr v) := of_write _ _
theorem lwD3Chcr : Statement .lwD3Chcr := of_read _
theorem swD3Madr (v : Word) : Statement (.swD3Madr v) := of_write _ _
theorem lwD3Madr : Statement .lwD3Madr := of_read _
theorem swD3Qwc (v : Word) : Statement (.swD3Qwc v) := of_write _ _
theorem lwD3Qwc : Statement .lwD3Qwc := of_read _
theorem swD3Tadr (v : Word) : Statement (.swD3Tadr v) := of_write _ _
theorem lwD3Tadr : Statement .lwD3Tadr := of_read _
theorem swD3Asr0 (v : Word) : Statement (.swD3Asr0 v) := of_write _ _
theorem lwD3Asr0 : Statement .lwD3Asr0 := of_read _
theorem swD3Asr1 (v : Word) : Statement (.swD3Asr1 v) := of_write _ _
theorem lwD3Asr1 : Statement .lwD3Asr1 := of_read _
theorem swD3Sadr (v : Word) : Statement (.swD3Sadr v) := of_write _ _
theorem lwD3Sadr : Statement .lwD3Sadr := of_read _
theorem swD4Chcr (v : Word) : Statement (.swD4Chcr v) := of_write _ _
theorem lwD4Chcr : Statement .lwD4Chcr := of_read _
theorem swD4Madr (v : Word) : Statement (.swD4Madr v) := of_write _ _
theorem lwD4Madr : Statement .lwD4Madr := of_read _
theorem swD4Qwc (v : Word) : Statement (.swD4Qwc v) := of_write _ _
theorem lwD4Qwc : Statement .lwD4Qwc := of_read _
theorem swD4Tadr (v : Word) : Statement (.swD4Tadr v) := of_write _ _
theorem lwD4Tadr : Statement .lwD4Tadr := of_read _
theorem swD4Asr0 (v : Word) : Statement (.swD4Asr0 v) := of_write _ _
theorem lwD4Asr0 : Statement .lwD4Asr0 := of_read _
theorem swD4Asr1 (v : Word) : Statement (.swD4Asr1 v) := of_write _ _
theorem lwD4Asr1 : Statement .lwD4Asr1 := of_read _
theorem swD4Sadr (v : Word) : Statement (.swD4Sadr v) := of_write _ _
theorem lwD4Sadr : Statement .lwD4Sadr := of_read _
theorem swD5Chcr (v : Word) : Statement (.swD5Chcr v) := of_write _ _
theorem lwD5Chcr : Statement .lwD5Chcr := of_read _
theorem swD5Madr (v : Word) : Statement (.swD5Madr v) := of_write _ _
theorem lwD5Madr : Statement .lwD5Madr := of_read _
theorem swD5Qwc (v : Word) : Statement (.swD5Qwc v) := of_write _ _
theorem lwD5Qwc : Statement .lwD5Qwc := of_read _
theorem swD5Tadr (v : Word) : Statement (.swD5Tadr v) := of_write _ _
theorem lwD5Tadr : Statement .lwD5Tadr := of_read _
theorem swD5Asr0 (v : Word) : Statement (.swD5Asr0 v) := of_write _ _
theorem lwD5Asr0 : Statement .lwD5Asr0 := of_read _
theorem swD5Asr1 (v : Word) : Statement (.swD5Asr1 v) := of_write _ _
theorem lwD5Asr1 : Statement .lwD5Asr1 := of_read _
theorem swD5Sadr (v : Word) : Statement (.swD5Sadr v) := of_write _ _
theorem lwD5Sadr : Statement .lwD5Sadr := of_read _
theorem swD6Chcr (v : Word) : Statement (.swD6Chcr v) := of_write _ _
theorem lwD6Chcr : Statement .lwD6Chcr := of_read _
theorem swD6Madr (v : Word) : Statement (.swD6Madr v) := of_write _ _
theorem lwD6Madr : Statement .lwD6Madr := of_read _
theorem swD6Qwc (v : Word) : Statement (.swD6Qwc v) := of_write _ _
theorem lwD6Qwc : Statement .lwD6Qwc := of_read _
theorem swD6Tadr (v : Word) : Statement (.swD6Tadr v) := of_write _ _
theorem lwD6Tadr : Statement .lwD6Tadr := of_read _
theorem swD6Asr0 (v : Word) : Statement (.swD6Asr0 v) := of_write _ _
theorem lwD6Asr0 : Statement .lwD6Asr0 := of_read _
theorem swD6Asr1 (v : Word) : Statement (.swD6Asr1 v) := of_write _ _
theorem lwD6Asr1 : Statement .lwD6Asr1 := of_read _
theorem swD6Sadr (v : Word) : Statement (.swD6Sadr v) := of_write _ _
theorem lwD6Sadr : Statement .lwD6Sadr := of_read _
theorem swD7Chcr (v : Word) : Statement (.swD7Chcr v) := of_write _ _
theorem lwD7Chcr : Statement .lwD7Chcr := of_read _
theorem swD7Madr (v : Word) : Statement (.swD7Madr v) := of_write _ _
theorem lwD7Madr : Statement .lwD7Madr := of_read _
theorem swD7Qwc (v : Word) : Statement (.swD7Qwc v) := of_write _ _
theorem lwD7Qwc : Statement .lwD7Qwc := of_read _
theorem swD7Tadr (v : Word) : Statement (.swD7Tadr v) := of_write _ _
theorem lwD7Tadr : Statement .lwD7Tadr := of_read _
theorem swD7Asr0 (v : Word) : Statement (.swD7Asr0 v) := of_write _ _
theorem lwD7Asr0 : Statement .lwD7Asr0 := of_read _
theorem swD7Asr1 (v : Word) : Statement (.swD7Asr1 v) := of_write _ _
theorem lwD7Asr1 : Statement .lwD7Asr1 := of_read _
theorem swD7Sadr (v : Word) : Statement (.swD7Sadr v) := of_write _ _
theorem lwD7Sadr : Statement .lwD7Sadr := of_read _
theorem swD8Chcr (v : Word) : Statement (.swD8Chcr v) := of_write _ _
theorem lwD8Chcr : Statement .lwD8Chcr := of_read _
theorem swD8Madr (v : Word) : Statement (.swD8Madr v) := of_write _ _
theorem lwD8Madr : Statement .lwD8Madr := of_read _
theorem swD8Qwc (v : Word) : Statement (.swD8Qwc v) := of_write _ _
theorem lwD8Qwc : Statement .lwD8Qwc := of_read _
theorem swD8Tadr (v : Word) : Statement (.swD8Tadr v) := of_write _ _
theorem lwD8Tadr : Statement .lwD8Tadr := of_read _
theorem swD8Asr0 (v : Word) : Statement (.swD8Asr0 v) := of_write _ _
theorem lwD8Asr0 : Statement .lwD8Asr0 := of_read _
theorem swD8Asr1 (v : Word) : Statement (.swD8Asr1 v) := of_write _ _
theorem lwD8Asr1 : Statement .lwD8Asr1 := of_read _
theorem swD8Sadr (v : Word) : Statement (.swD8Sadr v) := of_write _ _
theorem lwD8Sadr : Statement .lwD8Sadr := of_read _
theorem swD9Chcr (v : Word) : Statement (.swD9Chcr v) := of_write _ _
theorem lwD9Chcr : Statement .lwD9Chcr := of_read _
theorem swD9Madr (v : Word) : Statement (.swD9Madr v) := of_write _ _
theorem lwD9Madr : Statement .lwD9Madr := of_read _
theorem swD9Qwc (v : Word) : Statement (.swD9Qwc v) := of_write _ _
theorem lwD9Qwc : Statement .lwD9Qwc := of_read _
theorem swD9Tadr (v : Word) : Statement (.swD9Tadr v) := of_write _ _
theorem lwD9Tadr : Statement .lwD9Tadr := of_read _
theorem swD9Asr0 (v : Word) : Statement (.swD9Asr0 v) := of_write _ _
theorem lwD9Asr0 : Statement .lwD9Asr0 := of_read _
theorem swD9Asr1 (v : Word) : Statement (.swD9Asr1 v) := of_write _ _
theorem lwD9Asr1 : Statement .lwD9Asr1 := of_read _
theorem swD9Sadr (v : Word) : Statement (.swD9Sadr v) := of_write _ _
theorem lwD9Sadr : Statement .lwD9Sadr := of_read _
theorem swCtrl (v : Word) : Statement (.swCtrl v) := of_write _ _
theorem lwCtrl : Statement .lwCtrl := of_read _
theorem swStat (v : Word) : Statement (.swStat v) := of_write _ _
theorem lwStat : Statement .lwStat := of_read _
theorem swPcr (v : Word) : Statement (.swPcr v) := of_write _ _
theorem lwPcr : Statement .lwPcr := of_read _
theorem swSqwc (v : Word) : Statement (.swSqwc v) := of_write _ _
theorem lwSqwc : Statement .lwSqwc := of_read _
theorem swRbsr (v : Word) : Statement (.swRbsr v) := of_write _ _
theorem lwRbsr : Statement .lwRbsr := of_read _
theorem swRbor (v : Word) : Statement (.swRbor v) := of_write _ _
theorem lwRbor : Statement .lwRbor := of_read _
theorem swStadr (v : Word) : Statement (.swStadr v) := of_write _ _
theorem lwStadr : Statement .lwStadr := of_read _
theorem swEnabler (v : Word) : Statement (.swEnabler v) := of_write _ _
theorem lwEnabler : Statement .lwEnabler := of_read _
theorem swEnablew (v : Word) : Statement (.swEnablew v) := of_write _ _
theorem lwEnablew : Statement .lwEnablew := of_read _
theorem swGen (a : Word) (v : Word) : Statement (.swGen a v) := of_write _ _
theorem lwGen (a : Word) : Statement (.lwGen a) := of_read _
theorem load8u (va : Word) : Statement (.load8u va) := of_dispatch _ _ _
theorem load8s (va : Word) : Statement (.load8s va) := of_dispatch _ _ _
theorem load16u (va : Word) : Statement (.load16u va) := of_dispatch _ _ _
theorem load16s (va : Word) : Statement (.load16s va) := of_dispatch _ _ _
theorem load32u (va : Word) : Statement (.load32u va) := of_dispatch _ _ _
theorem load32s (va : Word) : Statement (.load32s va) := of_dispatch _ _ _
theorem load64 (va : Word) : Statement (.load64 va) := of_dispatch _ _ _
theorem load128 (va : Word) : Statement (.load128 va) := of_dispatch _ _ _
theorem store8 (va : Word) (v : Quad) : Statement (.store8 va v) := of_dispatch _ _ _
theorem store16 (va : Word) (v : Quad) : Statement (.store16 va v) := of_dispatch _ _ _
theorem store32 (va : Word) (v : Quad) : Statement (.store32 va v) := of_dispatch _ _ _
theorem store64 (va : Word) (v : Quad) : Statement (.store64 va v) := of_dispatch _ _ _
theorem store128 (va : Word) (v : Quad) : Statement (.store128 va v) := of_dispatch _ _ _

end Sys2Proof.Laws.EncodedLength
end

