-- ==== Sys2Proof/Laws/Start.lean ====
section
/-!
SUPPORT. What the start of a channel and the drain of the queued starts can do (42_channel_engines.md R320, 40_registers.md
R215, R216, R245).
-/

namespace Sys2Proof.Machine

/-- The queued bits after one of them is set or cleared. -/
theorem State.isQueued_setQueued (s : State) (c k : Ch) (b : Bool) :
    (s.setQueued c b).isQueued k = if k = c then b else s.isQueued k := by
  unfold State.isQueued State.setQueued withBit
  have hk := Ch.num_lt k
  by_cases h : k = c
  · subst h
    cases b <;> simp [hk]
  · have hn : k.num ≠ c.num := fun e => h (Ch.num_injective e)
    cases b <;> simp [h, hk] <;> omega

@[simp] theorem State.isQueued_updEng (s : State) (c k : Ch) (f : Engine → Engine) :
    (s.updEng c f).isQueued k = s.isQueued k := rfl
@[simp] theorem State.isQueued_updChan (s : State) (c k : Ch) (f : Chan → Chan) :
    (s.updChan c f).isQueued k = s.isQueued k := rfl
@[simp] theorem State.isQueued_addFault (s : State) (k : Ch) (r : FaultRecord) :
    (s.addFault r).isQueued k = s.isQueued k := rfl
@[simp] theorem State.isQueued_startChannel (s : State) (c k : Ch) :
    (s.startChannel c).isQueued k = s.isQueued k := by
  simp [State.isQueued]

/-- Whether the start of channel `c` with MOD `m` is the model fault (40_registers.md R214, 42_channel_engines.md R322;
log 29). -/
def startFaults (p : Params) (c : Ch) (m : BitVec 2) : Bool :=
  if c.inScope then !supported c m else m == 3 && !p.mod3AsChain

/-- What a start can do: record the model fault, or set its engine going. -/
theorem State.startChannel_eq (s : State) (c : Ch) :
    s.startChannel c =
      if startFaults s.params c (chcrMod (s.chan.get c).chcr) then
        s.addFault (.unsupportedMode c (chcrMod (s.chan.get c).chcr))
      else s.updEng c fun e => if c.inScope then s.startedEngine c else { e with phase := .external } := by
  unfold State.startChannel State.start startFaults
  cases c.inScope
  · generalize chcrMod (s.chan.get c).chcr = m
    simp only [Bool.false_eq_true, if_false, Bool.and_eq_true, beq_iff_eq, Bool.not_eq_true']
    split
    · next h => rw [h.1]
    · rfl
  · cases hs : supported c (chcrMod (s.chan.get c).chcr) <;> simp [hs]

/-- A start touches no other engine. -/
theorem State.startChannel_eng_of_ne (s : State) {c k : Ch} (h : k ≠ c) :
    (s.startChannel c).eng.get k = s.eng.get k := by
  rw [State.startChannel_eq]
  split
  · rfl
  · rw [State.updEng_eng, PerChan.get_set_of_ne _ _ h]

/-- A model fault is never forgotten. -/
theorem State.mem_addFault (s : State) (r x : FaultRecord) :
    x ∈ (s.addFault r).faults ↔ x ∈ s.faults ∨ x = r := by
  unfold State.addFault
  by_cases h : r ∈ s.faults
  · simp only [h, if_true]
    exact ⟨.inl, fun e => e.elim id fun e => e ▸ h⟩
  · simp only [h, if_false, List.mem_append, List.mem_singleton]

/-- The records after a start. -/
theorem State.mem_startChannel_faults_iff (s : State) (c : Ch) (x : FaultRecord) :
    x ∈ (s.startChannel c).faults ↔ x ∈ s.faults ∨
      (startFaults s.params c (chcrMod (s.chan.get c).chcr) = true
        ∧ x = .unsupportedMode c (chcrMod (s.chan.get c).chcr)) := by
  rw [State.startChannel_eq]
  split
  · next h => rw [State.mem_addFault]; simp [h]
  · next h => simp [h]

theorem State.mem_startChannel_faults (s : State) (c : Ch) {x : FaultRecord} (h : x ∈ s.faults) :
    x ∈ (s.startChannel c).faults := (s.mem_startChannel_faults_iff c x).mpr (.inl h)

/-- Whether the drain starts channel `c`. -/
def State.drains (s : State) (c : Ch) : Bool := s.isQueued c && s.str c && s.dmacRunnable

theorem State.drainOne_of_drains {s : State} {c : Ch} (h : s.drains c = true) :
    s.drainOne c = (s.setQueued c false).startChannel c := if_pos h

theorem State.drainOne_of_not_drains {s : State} {c : Ch} (h : s.drains c = false) : s.drainOne c = s := by
  unfold State.drains at h
  unfold State.drainOne
  rw [h]
  rfl

/-- The drain of one channel touches no other. -/
theorem State.drainOne_of_ne (s : State) {c k : Ch} (h : k ≠ c) :
    (s.drainOne c).eng.get k = s.eng.get k ∧ (s.drainOne c).isQueued k = s.isQueued k := by
  cases hd : s.drains c
  · rw [State.drainOne_of_not_drains hd]; exact ⟨rfl, rfl⟩
  · rw [State.drainOne_of_drains hd, State.startChannel_eng_of_ne _ h, State.isQueued_startChannel,
      State.isQueued_setQueued, if_neg h]
    exact ⟨rfl, rfl⟩

theorem State.mem_drainOne_faults (s : State) (c : Ch) {x : FaultRecord} (h : x ∈ s.faults) :
    x ∈ (s.drainOne c).faults := by
  cases hd : s.drains c
  · rw [State.drainOne_of_not_drains hd]; exact h
  · rw [State.drainOne_of_drains hd]; exact State.mem_startChannel_faults _ _ h

/-- Draining a list of channels that leaves `c` out. -/
theorem State.drainList_of_not_mem {c : Ch} (l : List Ch) (s : State) (h : c ∉ l) :
    (l.foldl State.drainOne s).eng.get c = s.eng.get c ∧ (l.foldl State.drainOne s).isQueued c = s.isQueued c
      ∧ (l.foldl State.drainOne s).chan = s.chan ∧ (l.foldl State.drainOne s).g = s.g
      ∧ (l.foldl State.drainOne s).params = s.params
      ∧ ∀ x, x ∈ s.faults → x ∈ (l.foldl State.drainOne s).faults := by
  induction l generalizing s with
  | nil => exact ⟨rfl, rfl, rfl, rfl, rfl, fun _ h => h⟩
  | cons k l ih =>
    have hk : c ≠ k := fun e => h (e ▸ List.mem_cons_self ..)
    obtain ⟨h1, h2, h3, h4, h5, h6⟩ := ih (s.drainOne k) fun e => h (List.mem_cons_of_mem _ e)
    obtain ⟨g1, g2⟩ := s.drainOne_of_ne hk
    exact ⟨h1.trans g1, h2.trans g2, h3.trans (by simp), h4.trans (by simp), h5.trans (by simp),
      fun x hx => h6 x (s.mem_drainOne_faults k hx)⟩

/-- Channel `c` after the drain is what its own turn made of it. -/
theorem State.drainQueued_at (s : State) (c : Ch) :
    ∃ t : State, t.eng.get c = s.eng.get c ∧ t.isQueued c = s.isQueued c ∧ t.chan = s.chan ∧ t.g = s.g
      ∧ t.params = s.params ∧ s.drainQueued.eng.get c = (t.drainOne c).eng.get c
      ∧ s.drainQueued.isQueued c = (t.drainOne c).isQueued c
      ∧ ∀ x, x ∈ (t.drainOne c).faults → x ∈ s.drainQueued.faults := by
  have hs : ∃ l m, Ch.all = l ++ c :: m ∧ c ∉ l ∧ c ∉ m := by
    obtain ⟨l, m, h⟩ := List.append_of_mem (Ch.mem_all c)
    have hn : (l ++ c :: m).Nodup := h ▸ (by decide : Ch.all.Nodup)
    rw [List.nodup_append, List.nodup_cons] at hn
    exact ⟨l, m, h, fun hl => hn.2.2 c hl c (List.mem_cons_self ..) rfl, hn.2.1.1⟩
  obtain ⟨l, m, h, hl, hm⟩ := hs
  obtain ⟨a1, a2, a3, a4, a5, -⟩ := State.drainList_of_not_mem l s hl
  obtain ⟨b1, b2, -, -, -, b6⟩ := State.drainList_of_not_mem m ((l.foldl State.drainOne s).drainOne c) hm
  have he : s.drainQueued = m.foldl State.drainOne ((l.foldl State.drainOne s).drainOne c) := by
    unfold State.drainQueued
    rw [h, List.foldl_append, List.foldl_cons]
  exact ⟨l.foldl State.drainOne s, a1, a2, a3, a4, a5, he ▸ b1, he ▸ b2, he ▸ b6⟩

/-- The drain of one channel leaves what decides the drain of another. -/
theorem State.drains_drainOne_of_ne (s : State) {c k : Ch} (h : k ≠ c) : (s.drainOne c).drains k = s.drains k := by
  unfold State.drains State.str State.dmacRunnable State.dmacEnabled State.dmacSuspended
  rw [(s.drainOne_of_ne h).2, State.drainOne_chan, State.drainOne_g]

/-- The records after the drain of a list of channels. -/
theorem State.mem_drainList_faults_iff {l : List Ch} (hn : l.Nodup) (s : State) (x : FaultRecord) :
    x ∈ (l.foldl State.drainOne s).faults ↔ x ∈ s.faults ∨
      ∃ c ∈ l, s.drains c = true ∧ startFaults s.params c (chcrMod (s.chan.get c).chcr) = true
        ∧ x = .unsupportedMode c (chcrMod (s.chan.get c).chcr) := by
  induction l generalizing s with
  | nil => simp
  | cons k l ih =>
    obtain ⟨hk, hl⟩ := List.nodup_cons.mp hn
    have hd : ∀ c ∈ l, (s.drainOne k).drains c = s.drains c := fun c hc =>
      s.drains_drainOne_of_ne fun e => hk (e ▸ hc)
    have h1 : x ∈ (s.drainOne k).faults ↔ x ∈ s.faults ∨ (s.drains k = true ∧
        startFaults s.params k (chcrMod (s.chan.get k).chcr) = true
        ∧ x = .unsupportedMode k (chcrMod (s.chan.get k).chcr)) := by
      cases hq : s.drains k
      · rw [State.drainOne_of_not_drains hq]; simp
      · rw [State.drainOne_of_drains hq, State.mem_startChannel_faults_iff]; simp
    rw [List.foldl_cons, ih hl, h1, State.drainOne_chan, State.drainOne_params, or_assoc]
    refine or_congr_right ⟨?_, ?_⟩
    · rintro (h | ⟨c, hc, h⟩)
      · exact ⟨k, List.mem_cons_self .., h⟩
      · exact ⟨c, List.mem_cons_of_mem _ hc, hd c hc ▸ h⟩
    · rintro ⟨c, hc, h⟩
      rcases List.mem_cons.mp hc with rfl | hc
      · exact .inl h
      · exact .inr ⟨c, hc, (hd c hc).symm ▸ h⟩

/-- The records after the drain: those before it, and the model fault of every drained channel whose start faults. -/
theorem State.mem_drainQueued_faults_iff (s : State) (x : FaultRecord) :
    x ∈ s.drainQueued.faults ↔ x ∈ s.faults ∨
      ∃ c, s.drains c = true ∧ startFaults s.params c (chcrMod (s.chan.get c).chcr) = true
        ∧ x = .unsupportedMode c (chcrMod (s.chan.get c).chcr) := by
  unfold State.drainQueued
  rw [State.mem_drainList_faults_iff (by decide)]
  exact or_congr_right ⟨fun ⟨c, _, h⟩ => ⟨c, h⟩, fun ⟨c, h⟩ => ⟨c, Ch.mem_all c, h⟩⟩

end Sys2Proof.Machine
end

