-- ==== Sys2Proof/Laws/Vtlb.lean ====
section
/-!
SUPPORT. What a VTLB access and a DMAC handler access can do: the inversions of `interpLoad`, `interpStore`, the
dispatchers, `dmacRead32` and `dmacWrite32`.
-/

namespace Sys2Proof.Machine

/-- An access resolves to bytes exactly where its page is Direct and all its bytes exist. -/
theorem State.resolve_direct {s : State} {w : Width} {va : Word} {r : Region} {off : Nat} :
    s.resolve w va = .direct r off ↔ s.vtlbLookup va = .direct r off ∧ s.inRegion r off w = true := by
  unfold State.resolve
  cases s.vtlbLookup va with
  | direct q o =>
    by_cases hi : s.inRegion q o w = true
    · simp only [hi, if_true]
      exact ⟨fun h => by cases h; exact ⟨rfl, hi⟩, fun h => h.1⟩
    · simp only [hi]
      exact ⟨fun h => (nomatch h), fun h => by obtain ⟨he, hj⟩ := h; cases he; exact absurd hj hi⟩
  | handler h pa => exact ⟨fun h => (nomatch h), fun h => (nomatch h.1)⟩

/-- An access resolves to a handler where its page names it, and to the default handler where a byte does not exist. -/
theorem State.resolve_handler {s : State} {w : Width} {va : Word} {h : HandlerId} {pa : Word} :
    s.resolve w va = .handler h pa ↔ s.vtlbLookup va = .handler h pa ∨
      (h = .default ∧ pa = va ∧ ∃ r off, s.vtlbLookup va = .direct r off ∧ s.inRegion r off w = false) := by
  unfold State.resolve
  cases s.vtlbLookup va with
  | direct q o =>
    by_cases hi : s.inRegion q o w = true
    · simp only [hi, if_true]
      refine ⟨fun h => (nomatch h), fun h => ?_⟩
      rcases h with h | ⟨-, -, r, off, he, hf⟩
      · exact nomatch h
      · cases he; rw [hi] at hf; exact nomatch hf
    · simp only [hi]
      refine ⟨fun h => (by cases h; exact .inr ⟨rfl, rfl, q, o, rfl, by simpa using hi⟩), fun h => ?_⟩
      rcases h with h | ⟨rfl, rfl, -⟩
      · exact nomatch h
      · rfl
  | handler k pb =>
    refine ⟨.inl, fun h => ?_⟩
    rcases h with h | ⟨-, -, r, off, he, -⟩
    · exact h
    · exact nomatch he

/-- A load changes only the model's own fields (the returned value, the draws, the output), or marks a refusal. -/
theorem interpLoad_next {w : Width} {sign : Bool} {va : Word} {s s' : State} (h : interpLoad w sign va s = .next s') :
    (∃ e : Env, e.agenda = s.env.agenda ∧ s' = { s with env := e }) ∨ ∃ r, s' = s.refuse r := by
  unfold interpLoad at h
  split at h
  · split at h
    · cases h; refine .inl ⟨_, ?_, rfl⟩; rfl
    · split at h
      · unfold dmacLoad at h
        split at h
        · split at h
          · cases h; refine .inl ⟨_, ?_, rfl⟩; rfl
          · cases h; exact .inr ⟨_, rfl⟩
        · cases h; exact .inr ⟨_, rfl⟩
      · cases h; refine .inl ⟨_, ?_, rfl⟩; rfl
  · cases h; exact .inr ⟨_, rfl⟩

/-- A store writes a backing memory, or a DMAC register, or calls another handler, or marks a refusal. -/
theorem interpStore_next {w : Width} {va : Word} {v : Quad} {s s' : State} (h : interpStore w va v s = .next s') :
    (∃ r off, s.resolve w va = .direct r off ∧ s' = s.memWrite r off w.bytes v) ∨
      (∃ pa, s.resolve w va = .handler .dmac pa ∧ w = .w32 ∧ s.dmacWrite32 pa (v.setWidth 32) = some s') ∨
      (∃ k pa, k ≠ .dmac ∧ s.resolve w va = .handler k pa ∧ s' = s.setOut (.handlerWrite k w pa (lowBits w v))) ∨
      ∃ r, s' = s.refuse r := by
  unfold interpStore at h
  split at h
  · split at h
    · next r off hl => cases h; exact .inl ⟨r, off, hl, rfl⟩
    · next k pa hl =>
      split at h
      · next hk =>
        subst hk
        unfold dmacStore at h
        split at h
        · split at h
          · next s1 hw => cases h; exact .inr (.inl ⟨pa, hl, rfl, hw⟩)
          · cases h; exact .inr (.inr (.inr ⟨_, rfl⟩))
        · cases h; exact .inr (.inr (.inr ⟨_, rfl⟩))
      · next hk => cases h; exact .inr (.inr (.inl ⟨k, pa, hk, hl, rfl⟩))
  · cases h; exact .inr (.inr (.inr ⟨_, rfl⟩))

/-- A load dispatcher is the interpreted load, or refuses because it has not been generated. -/
theorem dispatchLoad_next {w : Width} {sign : Bool} {va : Word} {s s' : State}
    (h : dispatchLoad w sign va s = .next s') :
    (s.hasDispatcher (selector false w sign) = true ∧ interpLoad w sign va s = .next s') ∨
      s' = s.refuse (.dispatchBeforeInit va w) := by
  unfold dispatchLoad at h
  split at h
  · next hd => exact .inl ⟨hd, h⟩
  · cases h; exact .inr rfl

/-- A store dispatcher is the interpreted store, or refuses because it has not been generated. -/
theorem dispatchStore_next {w : Width} {va : Word} {v : Quad} {s s' : State} (h : dispatchStore w va v s = .next s') :
    (s.hasDispatcher (selector true w false) = true ∧ interpStore w va v s = .next s') ∨
      s' = s.refuse (.dispatchBeforeInit va w) := by
  unfold dispatchStore at h
  split at h
  · next hd => exact .inl ⟨hd, h⟩
  · cases h; exact .inr rfl

/-- A DMAC handler write is a channel-register, a global-register or a generic-cell write. -/
theorem State.dmacWrite32_some {s s' : State} {pa v : Word} (h : s.dmacWrite32 pa v = some s') :
    (∃ c r, decodeMmio pa = .chan c r ∧ s' = s.chanWrite c r v) ∨
    (∃ g, decodeMmio pa = .global g ∧ s' = s.globalWrite g v) ∨
    (∃ a, decodeMmio pa = .generic a ∧ s' = s.genWrite a v) := by
  unfold State.dmacWrite32 at h
  split at h
  · next c r hd => cases h; exact .inl ⟨c, r, hd, rfl⟩
  · next g hd => cases h; exact .inr (.inl ⟨g, hd, rfl⟩)
  · next a hd => cases h; exact .inr (.inr ⟨a, hd, rfl⟩)
  · exact nomatch h
  · exact nomatch h

/-- A generic-cell write stores, or marks a refusal. -/
theorem execSwGen_next {a v : Word} {s s' : State} (h : execSwGen a v s = .next s') :
    (isGeneric a = true ∧ s' = s.genWrite a v) ∨ (isGeneric a = false ∧ s' = s.refuse (.unmodelledAccess a .w32)) := by
  unfold execSwGen at h
  split at h
  · next hg => cases h; exact .inl ⟨hg, rfl⟩
  · next hg => cases h; exact .inr ⟨by simpa using hg, rfl⟩

/-- A generic-cell read returns the cell, or marks a refusal. -/
theorem execLwGen_next {a : Word} {s s' : State} (h : execLwGen a s = .next s') :
    (isGeneric a = true ∧ s' = s.setRet (.word (s.genRead a))) ∨
      (isGeneric a = false ∧ s' = s.refuse (.unmodelledAccess a .w32)) := by
  unfold execLwGen at h
  split at h
  · next hg => cases h; exact .inl ⟨hg, rfl⟩
  · next hg => cases h; exact .inr ⟨by simpa using hg, rfl⟩

end Sys2Proof.Machine
end

