-- ==== Sys2Proof/Laws/Step.lean ====
section
/-!
SUPPORT. What a step can do, said once: the forms of the state a step goes to, with the guard under which each is taken. A
proof about every step takes `step_form` apart instead of unfolding the agents.
-/

namespace Sys2Proof.Machine

/-- The states the action `a` can lead to from `s` (the action already off the agenda). -/
inductive StepForm (s : State) : Action → State → Prop where
  /-- The move is not enabled. -/
  | held (a : Action) : StepForm s a s
  /-- The host's register access or dispatcher call. -/
  | host (a : Action) (i : Instr) (s' : State)
      (ha : (∃ x v, a = .hostWrite .w32 x v ∧ i.port = .mmioWrite
          ∧ decode .mmioWrite (encodeWrite x (v.setWidth 32)) = .ok i) ∨
        (∃ x, a = .hostRead .w32 x ∧ i.port = .mmioRead ∧ decode .mmioRead (encodeRead x) = .ok i) ∨
        (∃ sel va v, a = .dispatch sel va v ∧ i.port = .dispatch ∧ decode .dispatch (encodeDispatch sel va v) = .ok i))
      (h : exec i s = .next s') : StepForm s a s'
  /-- A host access that is no instruction is refused: only the mark is set. -/
  | refused (a : Action) (e : Refusal) (ha : (∃ w x v, a = .hostWrite w x v) ∨ (∃ w x, a = .hostRead w x) ∨
      ∃ sel va v, a = .dispatch sel va v) : StepForm s a (s.refuse e)
  | interpLoad (w : Width) (sign : Bool) (va : Word) (v : Quad) (s' : State) (h : interpLoad w sign va s = .next s') :
      StepForm s (.interpret false w sign va v) s'
  | interpStore (w : Width) (sign : Bool) (va : Word) (v : Quad) (s' : State) (h : interpStore w va v s = .next s') :
      StepForm s (.interpret true w sign va v) s'
  | vtlbInit : StepForm s .vtlbInit s.vtlbInit
  /-- A source-chain fetch whose tag address resolves to nothing. -/
  | tagBusError (c : SrcCh) (n : Nat) (hr : s.dmacRunnable = true) (hp : (s.eng.get c.toCh).phase = .tagFetch)
      (hm : (s.eng.get c.toCh).mode = .srcChain) (hl : s.dmaAddr (s.chan.get c.toCh).tadr false = none) :
      StepForm s (.engine c.toCh n) (s.busError c.toCh)
  /-- A source-chain fetch. -/
  | srcTag (c : SrcCh) (n : Nat) (l : Loc) (i : Instr) (s' : State) (hr : s.dmacRunnable = true)
      (hp : (s.eng.get c.toCh).phase = .tagFetch) (hm : (s.eng.get c.toCh).mode = .srcChain)
      (hl : s.dmaAddr (s.chan.get c.toCh).tadr false = some l)
      (hs : c = .sif1 → chcrTte (s.chan.get .sif1).chcr = true → 2 ≤ s.sifFree .sif1) (hi : i.port = .srcTag c)
      (h : exec i s = .next s')
      (hd : decode (.srcTag c) ((s.mem.get l.region).readBytes l.off 16) = .ok i) : StepForm s (.engine c.toCh n) s'
  /-- SIF0's destination-tag read. -/
  | dstTagSif0 (n : Nat) (i : Instr) (s' : State) (hr : s.dmacRunnable = true)
      (hp : (s.eng.get .sif0).phase = .tagFetch) (hm : (s.eng.get .sif0).mode = .dstChain) (hf : 4 ≤ s.sifSize .sif0)
      (hi : i.port = .dstTag .sif0) (h : exec i (State.takeSif .sif0 s).2 = .next s') : StepForm s (.engine .sif0 n) s'
  /-- SPR0's destination-tag read. -/
  | dstTagSpr0 (n : Nat) (i : Instr) (s' : State) (hr : s.dmacRunnable = true)
      (hp : (s.eng.get .spr0).phase = .tagFetch) (hm : (s.eng.get .spr0).mode = .dstChain)
      (hi : i.port = .dstTag .spr0) (h : exec i (s.advanceSadr .spr0) = .next s') : StepForm s (.engine .spr0 n) s'
  | transfer (c : Ch) (n : Nat) (hr : s.dmacRunnable = true) (hp : (s.eng.get c).phase = .transfer) :
      StepForm s (.engine c n) (s.transferPhase c n)
  /-- A stalled engine fetches again. -/
  | refetch (c : Ch) (n : Nat) (hr : s.dmacRunnable = true) (hp : (s.eng.get c).phase = .stalled) :
      StepForm s (.engine c n) (s.updEng c fun e => { e with phase := .tagFetch })
  | wake (c : Ch) (n : Nat) (hr : s.dmacRunnable = true) (hp : (s.eng.get c).phase = .parked) (hw : s.wakes c = true) :
      StepForm s (.engine c n) (s.updEng c fun e => { e with phase := .transfer })
  | iopPushData (f : Sif) (n : Nat) (hb : (s.sif.get f).iop.busy = true) (hc : 0 < (s.sif.get f).iop.counter)
      (hd : s.iopPushes f = true) (hf : 0 < s.sifFree f) :
      StepForm s (.iopHalf f n) (s.iopPushData f (chunk n (min (s.sif.get f).iop.counter (s.sifFree f))))
  | iopPopData (f : Sif) (n : Nat) (hb : (s.sif.get f).iop.busy = true) (hc : 0 < (s.sif.get f).iop.counter)
      (hd : s.iopPushes f = false) (hf : 0 < s.sifSize f) :
      StepForm s (.iopHalf f n) (s.iopPopData f (chunk n (min (s.sif.get f).iop.counter (s.sifSize f))))
  | iopPushJunk (f : Sif) (n : Nat) (hb : (s.sif.get f).iop.busy = true) (hc : (s.sif.get f).iop.counter = 0)
      (hj : 0 < (s.sif.get f).iop.writeJunk) (hd : s.iopPushes f = true)
      (hf : (s.sif.get f).iop.writeJunk ≤ s.sifFree f) : StepForm s (.iopHalf f n) (s.iopPushJunk f)
  | iopPopJunk (f : Sif) (n : Nat) (hb : (s.sif.get f).iop.busy = true) (hc : (s.sif.get f).iop.counter = 0)
      (hj : 0 < (s.sif.get f).iop.writeJunk) (hd : s.iopPushes f = false)
      (hf : (s.sif.get f).iop.writeJunk ≤ s.sifSize f) : StepForm s (.iopHalf f n) (s.iopPopJunk f)
  | iopEnd (f : Sif) (n : Nat) (hb : (s.sif.get f).iop.busy = true) (hc : (s.sif.get f).iop.counter = 0)
      (hj : (s.sif.get f).iop.writeJunk = 0) (hl : (s.sif.get f).iop.last = true) :
      StepForm s (.iopHalf f n) (s.endIOP f)
  | iopTagSif0 (n : Nat) (t : IopTag) (s' : State) (hb : (s.sif.get .sif0).iop.busy = true)
      (hc : (s.sif.get .sif0).iop.counter = 0) (hj : (s.sif.get .sif0).iop.writeJunk = 0)
      (hl : (s.sif.get .sif0).iop.last = false) (hf : 4 ≤ s.sifFree .sif0) (h : execIopTagSif0 t s = .next s') :
      StepForm s (.iopHalf .sif0 n) s'
  | iopTagSif1 (n : Nat) (t : IopTag) (s' : State) (hb : (s.sif.get .sif1).iop.busy = true)
      (hc : (s.sif.get .sif1).iop.counter = 0) (hj : (s.sif.get .sif1).iop.writeJunk = 0)
      (hl : (s.sif.get .sif1).iop.last = false) (hf : 4 ≤ s.sifSize .sif1) (h : execIopTagSif1 t s = .next s') :
      StepForm s (.iopHalf .sif1 n) s'
  | fire (c : Ch) : StepForm s (.fire c) (s.fireEvent c)
  | fireIop (f : Sif) : StepForm s (.fireIop f) (s.fireIopEvent f)
  | iopStart (f : Sif) (madr tadr : Word) (words : Nat) :
      StepForm s (.iopStart f madr tadr words) (s.iopStart f madr tadr words)
  | ipuPush (q : Quad) (h : 0 < s.ipuOutFree) : StepForm s (.ipuPush q) (s.ipuOutPush q)
  | ipuPop (h : 0 < s.ipu.inFifo.length) : StepForm s .ipuPop s.ipuInPop
  | ipuRequest (b : Bool) : StepForm s (.ipuRequest b) { s with ipu := { s.ipu with dataRequested := b } }
  | extPump (c : Ch) (op : ExtOp) : StepForm s (.extPump c op) (s.extPump c op)
  | extSchedule (c : Ch) (d : Nat) : StepForm s (.extSchedule c d) (s.extSchedule c d)
  | mfifoEmpty : StepForm s .mfifoEmpty (s.hwDmacIrq statMeis)
  | mmuMap (p : Nat) (e : VtlbEntry) : StepForm s (.mmuMap p e) (s.mmuMap p e)
  | iopCpuStore (w : Width) (x : Word) (v : Quad) : StepForm s (.iopCpuStore w x v) (s.iopCpuStore w x v)
  | reset : StepForm s .reset s.resetBlock

/-- What running a move gives. -/
def Move.result : Move → Result
  | .run i s => exec i s
  | .done r => r

theorem hold_result {s s' : State} (h : (hold s).result = .next s') : s' = s := by cases h; rfl

/-- The instructions each port's bytes decode to. -/
theorem decode_port {p : Port} {bs : List Byte} {i : Instr} (h : decode p bs = .ok i) : i.port = p := by
  unfold decode at h
  split at h
  · exact nomatch h
  · cases p with
    | srcTag c =>
      cases h; unfold decodeSrcTag; simp only []; split <;> rfl
    | dstTag c =>
      cases h; unfold decodeDstTag; simp only []; split <;> rfl
    | iopTagSif0 => cases h; rfl
    | iopTagSif1 => cases h; rfl
    | mmioWrite =>
      simp only [] at h
      unfold decodeWrite at h
      split at h
      · next c r _ => cases h; cases c <;> cases r <;> rfl
      · next g _ => cases h; cases g <;> rfl
      · cases h; rfl
      · exact nomatch h
      · exact nomatch h
    | mmioRead =>
      simp only [] at h
      unfold decodeRead at h
      split at h
      · next c r _ => cases h; cases c <;> cases r <;> rfl
      · next g _ => cases h; cases g <;> rfl
      · cases h; rfl
      · exact nomatch h
      · exact nomatch h
    | dispatch =>
      simp only [] at h
      split at h
      · split at h
        · next j hj =>
          cases h
          unfold dispatcher? at hj
          split at hj <;> cases hj <;> rfl
        · exact nomatch h
      · exact nomatch h

/-- An instruction read on a port runs, and bytes that are none are refused. -/
theorem readInstr_next {p : Port} {bs : List Byte} {s s' : State} (h : (readInstr p bs s).result = .next s') :
    (∃ i, i.port = p ∧ exec i s = .next s' ∧ decode p bs = .ok i) ∨ ∃ e, s' = s.refuse e := by
  unfold readInstr at h
  split at h
  · next i hd => exact .inl ⟨i, decode_port hd, h, hd⟩
  · cases h; exact .inr ⟨_, rfl⟩

/-- The four ports that tags are read on: sixteen bytes always are a tag. -/
def Port.readsTag : Port → Bool
  | .srcTag _ | .dstTag _ | .iopTagSif0 | .iopTagSif1 => true
  | .mmioWrite | .mmioRead | .dispatch => false

theorem readTag_next {p : Port} {bs : List Byte} {s s' : State} (hp : Port.readsTag p = true) (hl : bs.length = 16)
    (h : (readInstr p bs s).result = .next s') : ∃ i, i.port = p ∧ exec i s = .next s' ∧ decode p bs = .ok i := by
  have hd : ∃ i, decode p bs = .ok i := by
    unfold decode
    cases p <;> simp only [Port.length, hl, lt_irrefl, if_false]
    all_goals first | exact ⟨_, rfl⟩ | exact nomatch hp
  obtain ⟨i, hi⟩ := hd
  unfold readInstr at h
  rw [hi] at h
  exact ⟨i, decode_port hi, h, hi⟩

theorem srcTagFetch_form {c : SrcCh} {n : Nat} {s s' : State} (hr : s.dmacRunnable = true)
    (hp : (s.eng.get c.toCh).phase = .tagFetch) (hm : (s.eng.get c.toCh).mode = .srcChain)
    (hs : c = .sif1 → chcrTte (s.chan.get .sif1).chcr = true → 2 ≤ s.sifFree .sif1)
    (h : (s.srcTagFetch c).result = .next s') : StepForm s (.engine c.toCh n) s' := by
  unfold State.srcTagFetch at h
  split at h
  · next hl => cases h; exact .tagBusError c n hr hp hm hl
  · next l hl =>
    obtain ⟨i, hi, he, hd⟩ := readTag_next rfl (Memory.length_readBytes ..) h
    exact .srcTag c n l i s' hr hp hm hl hs hi he hd

theorem tagFetchPhase_form {c : Ch} {n : Nat} {s s' : State} (hr : s.dmacRunnable = true)
    (hp : (s.eng.get c).phase = .tagFetch) (h : (s.tagFetchPhase c).result = .next s') :
    StepForm s (.engine c n) s' := by
  unfold State.tagFetchPhase at h
  split at h
  · next hm => exact srcTagFetch_form (c := .ipu1) hr hp hm (fun e => nomatch e) h
  · next hm => exact srcTagFetch_form (c := .spr1) hr hp hm (fun e => nomatch e) h
  · next hm =>
    split at h
    · rw [hold_result h]; exact .held _
    · next hg => exact srcTagFetch_form (c := .sif1) hr hp hm (fun _ ht => not_lt.mp fun hlt => hg ⟨ht, hlt⟩) h
  · next hm =>
    unfold State.sif0TagRead at h
    split at h
    · rw [hold_result h]; exact .held _
    · next hf =>
      obtain ⟨i, hi, he, -⟩ := readTag_next rfl (length_leBytes ..) h
      exact .dstTagSif0 n i s' hr hp hm (not_lt.mp hf) hi he
  · next hm =>
    obtain ⟨i, hi, he, -⟩ := readTag_next rfl (Memory.length_readBytes ..) h
    exact .dstTagSpr0 n i s' hr hp hm hi he
  · rw [hold_result h]; exact .held _

theorem engineMove_form {c : Ch} {n : Nat} {s s' : State} (h : (s.engineMove c n).result = .next s') :
    StepForm s (.engine c n) s' := by
  unfold State.engineMove at h
  split at h
  · next hr =>
    split at h
    · next hp => exact tagFetchPhase_form hr hp h
    · next hp => cases h; exact .transfer c n hr hp
    · next hp => cases h; exact .refetch c n hr hp
    · next hp =>
      split at h
      · next hw => cases h; exact .wake c n hr hp hw
      · rw [hold_result h]; exact .held _
    all_goals rw [hold_result h]; exact .held _
  · rw [hold_result h]; exact .held _

theorem execIopTagSif0_of_port {i : Instr} {s s' : State} (hi : i.port = .iopTagSif0) (h : exec i s = .next s') :
    ∃ t, i = .iopTagSif0 t ∧ execIopTagSif0 t s = .next s' := by
  cases i
  case iopTagSif0 t => exact ⟨t, rfl, h⟩
  all_goals cases hi

theorem execIopTagSif1_of_port {i : Instr} {s s' : State} (hi : i.port = .iopTagSif1) (h : exec i s = .next s') :
    ∃ t, i = .iopTagSif1 t ∧ execIopTagSif1 t s = .next s' := by
  cases i
  case iopTagSif1 t => exact ⟨t, rfl, h⟩
  all_goals cases hi

theorem iopMove_form {f : Sif} {n : Nat} {s s' : State} (h : (s.iopMove f n).result = .next s') :
    StepForm s (.iopHalf f n) s' := by
  unfold State.iopMove at h
  simp only [] at h
  split at h
  · rw [hold_result h]; exact .held _
  · next hb =>
    have hb : (s.sif.get f).iop.busy = true := by simpa using hb
    split at h
    · next hc =>
      split at h
      · next hd =>
        split at h
        · next hf => cases h; exact .iopPushData f n hb hc hd hf
        · rw [hold_result h]; exact .held _
      · next hd =>
        have hd : s.iopPushes f = false := by simpa using hd
        split at h
        · next hf => cases h; exact .iopPopData f n hb hc hd hf
        · rw [hold_result h]; exact .held _
    · next hc =>
      have hc : (s.sif.get f).iop.counter = 0 := Nat.eq_zero_of_not_pos hc
      split at h
      · next hj =>
        split at h
        · next hd =>
          split at h
          · next hf => cases h; exact .iopPushJunk f n hb hc hj hd hf
          · rw [hold_result h]; exact .held _
        · next hd =>
          have hd : s.iopPushes f = false := by simpa using hd
          split at h
          · next hf => cases h; exact .iopPopJunk f n hb hc hj hd hf
          · rw [hold_result h]; exact .held _
      · next hj =>
        have hj : (s.sif.get f).iop.writeJunk = 0 := Nat.eq_zero_of_not_pos hj
        split at h
        · next hl => cases h; exact .iopEnd f n hb hc hj hl
        · next hl =>
          have hl : (s.sif.get f).iop.last = false := by simpa using hl
          unfold State.iopTagMove at h
          cases f with
          | sif0 =>
            simp only [] at h
            split at h
            · rw [hold_result h]; exact .held _
            · next hf =>
              obtain ⟨i, hi, he, -⟩ := readTag_next rfl (length_leBytes ..) h
              obtain ⟨t, -, ht⟩ := execIopTagSif0_of_port hi he
              exact .iopTagSif0 n t s' hb hc hj hl (not_lt.mp hf) ht
          | sif1 =>
            simp only [] at h
            split at h
            · rw [hold_result h]; exact .held _
            · next hf =>
              obtain ⟨i, hi, he, -⟩ := readTag_next rfl (length_leBytes ..) h
              obtain ⟨t, -, ht⟩ := execIopTagSif1_of_port hi he
              exact .iopTagSif1 n t s' hb hc hj hl (not_lt.mp hf) ht
          | sif2 => rw [hold_result h]; exact .held _

/-- The state a move leads to has one of the forms. -/
theorem move_form {a : Action} {s s' : State} (h : (s.move a).result = .next s') : StepForm s a s' := by
  cases a with
  | hostWrite w x v =>
    cases w with
    | w32 =>
      rcases readInstr_next h with ⟨i, hi, he, hd⟩ | ⟨e, rfl⟩
      · exact .host _ i s' (.inl ⟨_, _, rfl, hi, hd⟩) he
      · exact .refused _ e (.inl ⟨_, _, _, rfl⟩)
    | _ => cases h; exact .refused _ _ (.inl ⟨_, _, _, rfl⟩)
  | hostRead w x =>
    cases w with
    | w32 =>
      rcases readInstr_next h with ⟨i, hi, he, hd⟩ | ⟨e, rfl⟩
      · exact .host _ i s' (.inr (.inl ⟨_, rfl, hi, hd⟩)) he
      · exact .refused _ e (.inr (.inl ⟨_, _, rfl⟩))
    | _ => cases h; exact .refused _ _ (.inr (.inl ⟨_, _, rfl⟩))
  | dispatch sel va v =>
    rcases readInstr_next h with ⟨i, hi, he, hd⟩ | ⟨e, rfl⟩
    · exact .host _ i s' (.inr (.inr ⟨_, _, _, rfl, hi, hd⟩)) he
    · exact .refused _ e (.inr (.inr ⟨_, _, _, rfl⟩))
  | interpret st w sg va v =>
    cases st with
    | false => exact .interpLoad w sg va v s' h
    | true => exact .interpStore w sg va v s' h
  | vtlbInit => cases h; exact .vtlbInit
  | engine c n => exact engineMove_form h
  | iopHalf f n => exact iopMove_form h
  | fire c => cases h; exact .fire c
  | fireIop f => cases h; exact .fireIop f
  | iopStart f m t w => cases h; exact .iopStart f m t w
  | ipuPush q =>
    change Host.Outcome.next (if s.ipuOutFree > 0 then s.ipuOutPush q else s) = _ at h
    split at h
    · next hg => cases h; exact .ipuPush q hg
    · cases h; exact .held _
  | ipuPop =>
    change Host.Outcome.next (if s.ipu.inFifo.length > 0 then s.ipuInPop else s) = _ at h
    split at h
    · next hg => cases h; exact .ipuPop hg
    · cases h; exact .held _
  | ipuRequest b => cases h; exact .ipuRequest b
  | extPump c op => cases h; exact .extPump c op
  | extSchedule c d => cases h; exact .extSchedule c d
  | mfifoEmpty => cases h; exact .mfifoEmpty
  | mmuMap p e => cases h; exact .mmuMap p e
  | iopCpuStore w x v => cases h; exact .iopCpuStore w x v
  | reset => cases h; exact .reset

/-- Taking the next action changes only the model's own fields. -/
theorem State.nextAction_env (s : State) : ∃ e : Env, e.ret = s.env.ret ∧ e.out = s.env.out ∧
    s.nextAction.2 = { s with env := e } := by
  unfold State.nextAction
  split
  · next rest _ => exact ⟨{ s.env with agenda := rest }, rfl, rfl, rfl⟩
  · exact ⟨{ s.env with draws := s.env.draws + 1 }, rfl, rfl, rfl⟩

/-- A step with an action on the agenda is that action's move, with the action taken off. -/
theorem step_agenda {s : State} {a : Action} {rest : List Action} (hf : s.faults = [])
    (hr : s.refused = none) (ha : s.env.agenda = a :: rest) :
    step s = (State.move { s with env := { s.env with agenda := rest } } a).result := by
  have hn : s.nextMove = State.move { s with env := { s.env with agenda := rest } } a := by
    unfold State.nextMove State.nextAction
    simp only [hf, hr, ha]
  unfold step
  rw [hn]
  cases State.move { s with env := { s.env with agenda := rest } } a <;> rfl

/-- The DMAC is runnable when CTRL bit 0 is 1 and ENABLER bit 16 is 0 (10_state.md R38). -/
theorem State.dmacRunnable_iff (s : State) :
    s.dmacRunnable = true ↔ s.g.ctrl.getLsbD 0 = true ∧ s.g.enabler.getLsbD 16 = false := by
  simp only [State.dmacRunnable, State.dmacEnabled, State.dmacSuspended, ctrlDmae, cpnd, Bool.and_eq_true,
    Bool.not_eq_true']

/-- A step that goes on starts from a state without a fault record or the mark `refused` and has one of the forms. -/
theorem step_form {s s' : State} (h : step s = .next s') :
    s.faults = [] ∧ s.refused = none ∧ StepForm s.nextAction.2 s.nextAction.1 s' := by
  have hr : s.nextMove.result = .next s' := by
    unfold step at h
    split at h
    · next i s1 he => rw [he]; exact h
    · next r he => rw [he]; exact h
  unfold State.nextMove at hr
  split at hr
  · exact nomatch hr
  · next hf =>
    split at hr
    · exact nomatch hr
    · next hn => exact ⟨hf, hn, move_form hr⟩

end Sys2Proof.Machine
end

