-- ==== Sys2Proof/Laws/Tags.lean ====
section
/-!
SUPPORT. What a tag leaves in CHCR, in its channel's registers and in its engine (41_tag_walker.md R261, R280, R281, R298).
-/

namespace Sys2Proof.Machine

/-! ### The fields of CHCR after a tag -/

/-- The bits of CHCR with another stack pointer. -/
theorem getLsbD_chcrWithAsp (v : Word) (p : BitVec 2) (i : Nat) :
    (chcrWithAsp v p).getLsbD i = if 4 ≤ i ∧ i < 6 then p.getLsbD (i - 4) else v.getLsbD i := by
  unfold chcrWithAsp
  by_cases hi : i < 32
  · interval_cases i <;> simp
  · rw [BitVec.getLsbD_of_ge _ _ (not_lt.mp hi), if_neg (by omega), BitVec.getLsbD_of_ge _ _ (not_lt.mp hi)]

/-- The bits of CHCR with a tag cached. -/
theorem getLsbD_chcrWithTag (v : Word) (h : BitVec 16) (i : Nat) :
    (chcrWithTag v h).getLsbD i = if i < 16 then v.getLsbD i else h.getLsbD (i - 16) := by
  unfold chcrWithTag
  rw [BitVec.getLsbD_append]
  by_cases hi : i < 16 <;> simp [hi]

@[simp] theorem chcrTie_withTag (v : Word) (h : BitVec 16) : chcrTie (chcrWithTag v h) = chcrTie v := by
  simp [chcrTie, getLsbD_chcrWithTag, -BitVec.getLsbD_eq_getElem]
@[simp] theorem chcrTie_withAsp (v : Word) (p : BitVec 2) : chcrTie (chcrWithAsp v p) = chcrTie v := by
  simp [chcrTie, getLsbD_chcrWithAsp, -BitVec.getLsbD_eq_getElem]
@[simp] theorem chcrTte_withTag (v : Word) (h : BitVec 16) : chcrTte (chcrWithTag v h) = chcrTte v := by
  simp [chcrTte, getLsbD_chcrWithTag, -BitVec.getLsbD_eq_getElem]
@[simp] theorem chcrTte_withAsp (v : Word) (p : BitVec 2) : chcrTte (chcrWithAsp v p) = chcrTte v := by
  simp [chcrTte, getLsbD_chcrWithAsp, -BitVec.getLsbD_eq_getElem]
@[simp] theorem chcrStr_withTag (v : Word) (h : BitVec 16) : chcrStr (chcrWithTag v h) = chcrStr v := by
  simp [chcrStr, getLsbD_chcrWithTag, -BitVec.getLsbD_eq_getElem]
@[simp] theorem chcrStr_withAsp (v : Word) (p : BitVec 2) : chcrStr (chcrWithAsp v p) = chcrStr v := by
  simp [chcrStr, getLsbD_chcrWithAsp, -BitVec.getLsbD_eq_getElem]

@[simp] theorem chcrAsp_withTag (v : Word) (h : BitVec 16) : chcrAsp (chcrWithTag v h) = chcrAsp v := by
  unfold chcrAsp
  apply BitVec.eq_of_getLsbD_eq
  intro i hi
  rw [BitVec.getLsbD_extractLsb', BitVec.getLsbD_extractLsb', getLsbD_chcrWithTag, if_pos (by omega)]

/-! ### The source-chain fetch -/

/-- A rule leaves STR, TIE and TTE of its channel. -/
theorem SrcRule.chcr {id : BitVec 3} {rule : IdRule} (h : SrcRule id rule) (k : Ch) (T : Word) (t : Tag) (s : State) :
    chcrTie ((rule k T t s).1.chan.get k).chcr = chcrTie (s.chan.get k).chcr
      ∧ chcrTte ((rule k T t s).1.chan.get k).chcr = chcrTte (s.chan.get k).chcr
      ∧ chcrStr ((rule k T t s).1.chan.get k).chcr = chcrStr (s.chan.get k).chcr
      ∧ ((rule k T t s).1.chan.get k).sadr = (s.chan.get k).sadr := by
  cases h
  case call => unfold ruleCall; split <;> simp
  case ret => unfold ruleRet; split <;> simp [State.draw]
  all_goals simp [ruleRefe, ruleCnt, ruleNext, ruleRef, ruleEnd]

/-- A rule touches no other channel. -/
theorem SrcRule.chan_of_ne {id : BitVec 3} {rule : IdRule} (h : SrcRule id rule) {c k : Ch} (hk : k ≠ c) (T : Word)
    (t : Tag) (s : State) : (rule c T t s).1.chan.get k = s.chan.get k := by
  cases h
  case call => unfold ruleCall; split <;> simp [PerChan.get_set_of_ne _ _ hk]
  case ret => unfold ruleRet; split <;> simp [State.draw, PerChan.get_set_of_ne _ _ hk]
  all_goals simp [ruleRefe, ruleCnt, ruleNext, ruleRef, ruleEnd, PerChan.get_set_of_ne _ _ hk]

/-- A rule changes its channel's registers and the count of draws, nothing else. -/
theorem SrcRule.updates {id : BitVec 3} {rule : IdRule} (h : SrcRule id rule) (k : Ch) (T : Word) (t : Tag) (s : State) :
    (rule k T t s).1 =
      { s with chan := (rule k T t s).1.chan, env := { s.env with draws := (rule k T t s).1.env.draws } } := by
  cases h
  case call => unfold ruleCall; split <;> rfl
  case ret => unfold ruleRet; split <;> rfl
  all_goals rfl

/-- Sending a tag changes no register but SADR of its channel. -/
theorem State.tteAction_chan (s : State) (c : SrcCh) (q : Quad) :
    (s.tteAction c q).chan =
      if chcrTte (s.chan.get c.toCh).chcr = true ∧ c = .spr1 then
        s.chan.set .spr1 { s.chan.get .spr1 with sadr := sadrNext (s.chan.get .spr1).sadr }
      else s.chan := by
  unfold State.tteAction
  by_cases h : chcrTte (s.chan.get c.toCh).chcr = true
  · rw [if_pos h]
    cases c with
    | ipu1 => simp
    | sif1 => simp
    | spr1 => rw [if_pos ⟨h, rfl⟩]; simp [State.advanceSadr]
  · rw [if_neg h, if_neg (fun e => h e.1)]

/-- The registers and the engine of the channel after a source tag, where its rule updates the registers by `f`. -/
theorem State.takeSrcTag_self (s : State) (c : SrcCh) (id : BitVec 3) (t : Tag) (rule : IdRule) (f : Chan → Chan)
    (last : Bool) (e : Env)
    (hr : ∀ s1 : State, s1.env = s.env →
      chcrAsp (s1.chan.get c.toCh).chcr = chcrAsp (s.chan.get c.toCh).chcr →
      rule c.toCh (s.chan.get c.toCh).tadr t s1 = (({ s1 with env := e } : State).updChan c.toCh f, last))
    (hf : ∀ d, chcrTie (f d).chcr = chcrTie d.chcr) :
    let s' := s.takeSrcTag c id t rule
    s'.chan.get c.toCh =
        { f { s.chan.get c.toCh with chcr := chcrWithTag (s.chan.get c.toCh).chcr (t.tagH id), qwc := t.qwc, madr := t.a }
          with sadr := (s'.chan.get c.toCh).sadr }
      ∧ s'.eng.get c.toCh =
        { s.eng.get c.toCh with
          phase := .transfer, rem := t.qwc.toNat
          last := last || (chcrTie (s.chan.get c.toCh).chcr && t.irq == 1) } := by
  simp only [State.takeSrcTag]
  rw [hr]
  · simp only [State.updEng_chan, State.updEng_eng, State.tteAction_chan, State.tteAction_eng, State.updChan_chan,
      State.updChan_eng, PerChan.get_set_self, hf, chcrTie_withTag]
    refine ⟨?_, trivial⟩
    split
    · next h => obtain ⟨-, rfl⟩ := h; simp [SrcCh.toCh]
    · simp
  · rfl
  · simp

end Sys2Proof.Machine
end

