-- ==== Sys2Proof/Tests/Slice0.lean ====
section
/-!
SUPPORT. The model's own tests: ill-formed terms that WellFormed refuses, the words of the spec that decode to each
constructor, single steps whose results are worked out from the vectors of 95_test_vectors.md and the rules they name, and a
witness for the hypotheses of every statement that has some.
-/

namespace Sys2Proof.Tests
open Sys2Proof.Machine Sys2Proof.Claims

/-! ### Helpers -/

/-- The four bytes of a word, least significant first (20_memory.md R110), written out without the model's encoder. -/
def le4 (n : Nat) : List Byte :=
  [BitVec.ofNat 8 n, BitVec.ofNat 8 (n / 0x100), BitVec.ofNat 8 (n / 0x10000), BitVec.ofNat 8 (n / 0x1000000)]

/-- The bytes of `.qw w0, w1, w2, w3`. -/
def qw (w0 w1 w2 w3 : Nat) : List Byte := le4 w0 ++ le4 w1 ++ le4 w2 ++ le4 w3

/-- The bytes of a register write. -/
def sw (addr v : Nat) : List Byte := le4 addr ++ le4 v

/-- The bytes of a dispatcher call. -/
def call (sel va v : Nat) : List Byte := BitVec.ofNat 8 sel :: le4 va ++ qw v 0 0 0

/-- The outcome is a next state with `p`. -/
def leads (r : Result) (p : State → Bool) : Bool :=
  match r with
  | .next s => p s
  | _ => false

theorem exists_of_leads {r : Result} {p : State → Bool} (h : leads r p = true) : ∃ s, r = .next s ∧ p s = true := by
  cases r with
  | next s => exact ⟨s, rfl, h⟩
  | fault _ => exact nomatch h
  | refused _ => exact nomatch h

/-- The start state of the vectors: reset, with DMAE = 1. -/
def on : State := { State.reset with g := { State.reset.g with ctrl := 1 } }

/-- `s` with `d` in the registers and `e` in the engine of channel `c`. -/
def chanAs (s : State) (c : Ch) (d : Chan) (e : Engine) : State :=
  { s with chan := s.chan.set c d, eng := s.eng.set c e }

/-- An engine in a phase and a mode with `n` quadwords left. -/
def engine (p : Phase) (m : Mode) (n : Nat) : Engine := ⟨p, m, n, false, 0, false, 0⟩

/-- SPR1 about to fetch the tag at `tadr` with the given CHCR and stack. -/
def fetching (chcr tadr asr0 asr1 : Word) : State :=
  chanAs on .spr1 ⟨chcr, 0, 0, tadr, asr0, asr1, 0⟩ (engine .tagFetch .srcChain 0)

/-- QWC, MADR, TADR, CHCR and the end flag of SPR1. -/
def after (s : State) : BitVec 16 × Word × Word × Word × Bool :=
  let d := s.chan.get .spr1
  (d.qwc, d.madr, d.tadr, d.chcr, (s.eng.get .spr1).last)

/-- A tag with QWC and A, the other fields 0. -/
def tag (q : BitVec 16) (a : Word) : Tag := ⟨q, 0, 0, 0, a, 0⟩

/-- SIF channel `f` with these words in its FIFO and this IOP half. -/
def sifAs (s : State) (f : Sif) (ws : List Word) (h : IopHalf) (madr tadr : Word) : State :=
  { s with sif := s.sif.set f ⟨ws, h, madr, tadr, none⟩ }

/-- An initialised VTLB whose pages 0 to 3 are RAM, scratchpad, the DMAC and an external handler, and whose page 4 starts
16 bytes before the end of scratchpad (defaults: 4 KiB pages). -/
def mapped : State :=
  { on with vtlb := ⟨[(0, .direct .ram 0), (1, .direct .spr 0), (2, .handler .dmac 0x1000D000),
      (3, .handler (.external 7) 0x1F000000), (4, .direct .spr 0x3FF0)], true, validSelectors, .rx, 1⟩ }

/-! ### Ill-formed terms -/

theorem test_wf_named_register_is_no_generic_cell : (Instr.swGen 0x1000D400 0).wellFormed = false := by decide
theorem test_wf_global_register_is_no_generic_cell : (Instr.lwGen 0x1000F520).wellFormed = false := by decide
theorem test_wf_unaligned_cell : (Instr.swGen 0x1000E071 0).wellFormed = false := by decide
theorem test_wf_cell_below_the_pages : (Instr.lwGen 0x10007FFC).wellFormed = false := by decide
theorem test_wf_cell_above_the_pages : (Instr.swGen 0x1000F000 0).wellFormed = false := by decide
theorem test_wf_generic_cell : (Instr.swGen 0x1000E070 7).wellFormed = true := by decide

/-! ### Decoding: every constructor, by words written out from 30_encoding.md -/

/-- R150, R151: QWC in 15:0, PCE in 27:26, ID in 30:28, IRQ in 31, A in the second word. -/
theorem test_decode_source_tags :
    decode (.srcTag .spr1) (qw 0x88010005 0x80003000 1 2) =
      .ok (.srcRefe .spr1 ⟨5, 1, 2, 1, 0x80003000, 0x0000000200000001⟩)
    ∧ decode (.srcTag .spr1) (qw 0x98010005 0x80003000 1 2) =
      .ok (.srcCnt .spr1 ⟨5, 1, 2, 1, 0x80003000, 0x0000000200000001⟩)
    ∧ decode (.srcTag .spr1) (qw 0xA8010005 0x80003000 1 2) =
      .ok (.srcNext .spr1 ⟨5, 1, 2, 1, 0x80003000, 0x0000000200000001⟩)
    ∧ decode (.srcTag .spr1) (qw 0xB8010005 0x80003000 1 2) =
      .ok (.srcRef .spr1 ⟨5, 1, 2, 1, 0x80003000, 0x0000000200000001⟩)
    ∧ decode (.srcTag .spr1) (qw 0xC8010005 0x80003000 1 2) =
      .ok (.srcRefs .spr1 ⟨5, 1, 2, 1, 0x80003000, 0x0000000200000001⟩)
    ∧ decode (.srcTag .spr1) (qw 0xD8010005 0x80003000 1 2) =
      .ok (.srcCall .spr1 ⟨5, 1, 2, 1, 0x80003000, 0x0000000200000001⟩)
    ∧ decode (.srcTag .spr1) (qw 0xE8010005 0x80003000 1 2) =
      .ok (.srcRet .spr1 ⟨5, 1, 2, 1, 0x80003000, 0x0000000200000001⟩)
    ∧ decode (.srcTag .spr1) (qw 0xF8010005 0x80003000 1 2) =
      .ok (.srcEnd .spr1 ⟨5, 1, 2, 1, 0x80003000, 0x0000000200000001⟩) := by decide

/-- R150, R153. -/
theorem test_decode_destination_tags :
    decode (.dstTag .sif0) (qw 0x0400FFFF 0x7FFFFFF0 3 4) =
      .ok (.dstCnts .sif0 ⟨0xFFFF, 0, 1, 0, 0x7FFFFFF0, 0x0000000400000003⟩)
    ∧ decode (.dstTag .sif0) (qw 0x1400FFFF 0x7FFFFFF0 3 4) =
      .ok (.dstCnt .sif0 ⟨0xFFFF, 0, 1, 0, 0x7FFFFFF0, 0x0000000400000003⟩)
    ∧ decode (.dstTag .sif0) (qw 0x2400FFFF 0x7FFFFFF0 3 4) =
      .ok (.dstRsv2 .sif0 ⟨0xFFFF, 0, 1, 0, 0x7FFFFFF0, 0x0000000400000003⟩)
    ∧ decode (.dstTag .sif0) (qw 0x3400FFFF 0x7FFFFFF0 3 4) =
      .ok (.dstRsv3 .sif0 ⟨0xFFFF, 0, 1, 0, 0x7FFFFFF0, 0x0000000400000003⟩)
    ∧ decode (.dstTag .sif0) (qw 0x4400FFFF 0x7FFFFFF0 3 4) =
      .ok (.dstRsv4 .sif0 ⟨0xFFFF, 0, 1, 0, 0x7FFFFFF0, 0x0000000400000003⟩)
    ∧ decode (.dstTag .sif0) (qw 0x5400FFFF 0x7FFFFFF0 3 4) =
      .ok (.dstRsv5 .sif0 ⟨0xFFFF, 0, 1, 0, 0x7FFFFFF0, 0x0000000400000003⟩)
    ∧ decode (.dstTag .sif0) (qw 0x6400FFFF 0x7FFFFFF0 3 4) =
      .ok (.dstRsv6 .sif0 ⟨0xFFFF, 0, 1, 0, 0x7FFFFFF0, 0x0000000400000003⟩)
    ∧ decode (.dstTag .sif0) (qw 0x7400FFFF 0x7FFFFFF0 3 4) =
      .ok (.dstEnd .sif0 ⟨0xFFFF, 0, 1, 0, 0x7FFFFFF0, 0x0000000400000003⟩) := by decide

/-- R155: u0 = IADDR 23:0, ERT 30, IIRQ 31; u1 = WORDS 19:0. -/
theorem test_decode_iop_tags :
    decode .iopTagSif0 (qw 0x40001000 0x00000010 0x70000004 0x00005000) =
      .ok (.iopTagSif0 ⟨0x1000, 0, 1, 0, 16, 0, 0x70000004, 0x5000⟩)
    ∧ decode .iopTagSif1 (qw 0x80FFFFFF 0xFFFFFFFF 1 2) =
      .ok (.iopTagSif1 ⟨0xFFFFFF, 0, 0, 1, 0xFFFFF, 0xFFF, 1, 2⟩) := by decide

/-- R180, R181: channel 0, VIF0. -/
theorem test_decode_channel_0 :
    decode .mmioWrite (sw 0x10008000 0x89ABCDEF) = .ok (.swD0Chcr 0x89ABCDEF)
    ∧ decode .mmioRead (le4 0x10008000) = .ok .lwD0Chcr
    ∧ decode .mmioWrite (sw 0x10008010 0x89ABCDEF) = .ok (.swD0Madr 0x89ABCDEF)
    ∧ decode .mmioRead (le4 0x10008010) = .ok .lwD0Madr
    ∧ decode .mmioWrite (sw 0x10008020 0x89ABCDEF) = .ok (.swD0Qwc 0x89ABCDEF)
    ∧ decode .mmioRead (le4 0x10008020) = .ok .lwD0Qwc
    ∧ decode .mmioWrite (sw 0x10008030 0x89ABCDEF) = .ok (.swD0Tadr 0x89ABCDEF)
    ∧ decode .mmioRead (le4 0x10008030) = .ok .lwD0Tadr
    ∧ decode .mmioWrite (sw 0x10008040 0x89ABCDEF) = .ok (.swD0Asr0 0x89ABCDEF)
    ∧ decode .mmioRead (le4 0x10008040) = .ok .lwD0Asr0
    ∧ decode .mmioWrite (sw 0x10008050 0x89ABCDEF) = .ok (.swD0Asr1 0x89ABCDEF)
    ∧ decode .mmioRead (le4 0x10008050) = .ok .lwD0Asr1
    ∧ decode .mmioWrite (sw 0x10008080 0x89ABCDEF) = .ok (.swD0Sadr 0x89ABCDEF)
    ∧ decode .mmioRead (le4 0x10008080) = .ok .lwD0Sadr := by decide

/-- R180, R181: channel 1, VIF1. -/
theorem test_decode_channel_1 :
    decode .mmioWrite (sw 0x10009000 0x89ABCDEF) = .ok (.swD1Chcr 0x89ABCDEF)
    ∧ decode .mmioRead (le4 0x10009000) = .ok .lwD1Chcr
    ∧ decode .mmioWrite (sw 0x10009010 0x89ABCDEF) = .ok (.swD1Madr 0x89ABCDEF)
    ∧ decode .mmioRead (le4 0x10009010) = .ok .lwD1Madr
    ∧ decode .mmioWrite (sw 0x10009020 0x89ABCDEF) = .ok (.swD1Qwc 0x89ABCDEF)
    ∧ decode .mmioRead (le4 0x10009020) = .ok .lwD1Qwc
    ∧ decode .mmioWrite (sw 0x10009030 0x89ABCDEF) = .ok (.swD1Tadr 0x89ABCDEF)
    ∧ decode .mmioRead (le4 0x10009030) = .ok .lwD1Tadr
    ∧ decode .mmioWrite (sw 0x10009040 0x89ABCDEF) = .ok (.swD1Asr0 0x89ABCDEF)
    ∧ decode .mmioRead (le4 0x10009040) = .ok .lwD1Asr0
    ∧ decode .mmioWrite (sw 0x10009050 0x89ABCDEF) = .ok (.swD1Asr1 0x89ABCDEF)
    ∧ decode .mmioRead (le4 0x10009050) = .ok .lwD1Asr1
    ∧ decode .mmioWrite (sw 0x10009080 0x89ABCDEF) = .ok (.swD1Sadr 0x89ABCDEF)
    ∧ decode .mmioRead (le4 0x10009080) = .ok .lwD1Sadr := by decide

/-- R180, R181: channel 2, GIF. -/
theorem test_decode_channel_2 :
    decode .mmioWrite (sw 0x1000A000 0x89ABCDEF) = .ok (.swD2Chcr 0x89ABCDEF)
    ∧ decode .mmioRead (le4 0x1000A000) = .ok .lwD2Chcr
    ∧ decode .mmioWrite (sw 0x1000A010 0x89ABCDEF) = .ok (.swD2Madr 0x89ABCDEF)
    ∧ decode .mmioRead (le4 0x1000A010) = .ok .lwD2Madr
    ∧ decode .mmioWrite (sw 0x1000A020 0x89ABCDEF) = .ok (.swD2Qwc 0x89ABCDEF)
    ∧ decode .mmioRead (le4 0x1000A020) = .ok .lwD2Qwc
    ∧ decode .mmioWrite (sw 0x1000A030 0x89ABCDEF) = .ok (.swD2Tadr 0x89ABCDEF)
    ∧ decode .mmioRead (le4 0x1000A030) = .ok .lwD2Tadr
    ∧ decode .mmioWrite (sw 0x1000A040 0x89ABCDEF) = .ok (.swD2Asr0 0x89ABCDEF)
    ∧ decode .mmioRead (le4 0x1000A040) = .ok .lwD2Asr0
    ∧ decode .mmioWrite (sw 0x1000A050 0x89ABCDEF) = .ok (.swD2Asr1 0x89ABCDEF)
    ∧ decode .mmioRead (le4 0x1000A050) = .ok .lwD2Asr1
    ∧ decode .mmioWrite (sw 0x1000A080 0x89ABCDEF) = .ok (.swD2Sadr 0x89ABCDEF)
    ∧ decode .mmioRead (le4 0x1000A080) = .ok .lwD2Sadr := by decide

/-- R180, R181: channel 3, IPU0. -/
theorem test_decode_channel_3 :
    decode .mmioWrite (sw 0x1000B000 0x89ABCDEF) = .ok (.swD3Chcr 0x89ABCDEF)
    ∧ decode .mmioRead (le4 0x1000B000) = .ok .lwD3Chcr
    ∧ decode .mmioWrite (sw 0x1000B010 0x89ABCDEF) = .ok (.swD3Madr 0x89ABCDEF)
    ∧ decode .mmioRead (le4 0x1000B010) = .ok .lwD3Madr
    ∧ decode .mmioWrite (sw 0x1000B020 0x89ABCDEF) = .ok (.swD3Qwc 0x89ABCDEF)
    ∧ decode .mmioRead (le4 0x1000B020) = .ok .lwD3Qwc
    ∧ decode .mmioWrite (sw 0x1000B030 0x89ABCDEF) = .ok (.swD3Tadr 0x89ABCDEF)
    ∧ decode .mmioRead (le4 0x1000B030) = .ok .lwD3Tadr
    ∧ decode .mmioWrite (sw 0x1000B040 0x89ABCDEF) = .ok (.swD3Asr0 0x89ABCDEF)
    ∧ decode .mmioRead (le4 0x1000B040) = .ok .lwD3Asr0
    ∧ decode .mmioWrite (sw 0x1000B050 0x89ABCDEF) = .ok (.swD3Asr1 0x89ABCDEF)
    ∧ decode .mmioRead (le4 0x1000B050) = .ok .lwD3Asr1
    ∧ decode .mmioWrite (sw 0x1000B080 0x89ABCDEF) = .ok (.swD3Sadr 0x89ABCDEF)
    ∧ decode .mmioRead (le4 0x1000B080) = .ok .lwD3Sadr := by decide

/-- R180, R181: channel 4, IPU1. -/
theorem test_decode_channel_4 :
    decode .mmioWrite (sw 0x1000B400 0x89ABCDEF) = .ok (.swD4Chcr 0x89ABCDEF)
    ∧ decode .mmioRead (le4 0x1000B400) = .ok .lwD4Chcr
    ∧ decode .mmioWrite (sw 0x1000B410 0x89ABCDEF) = .ok (.swD4Madr 0x89ABCDEF)
    ∧ decode .mmioRead (le4 0x1000B410) = .ok .lwD4Madr
    ∧ decode .mmioWrite (sw 0x1000B420 0x89ABCDEF) = .ok (.swD4Qwc 0x89ABCDEF)
    ∧ decode .mmioRead (le4 0x1000B420) = .ok .lwD4Qwc
    ∧ decode .mmioWrite (sw 0x1000B430 0x89ABCDEF) = .ok (.swD4Tadr 0x89ABCDEF)
    ∧ decode .mmioRead (le4 0x1000B430) = .ok .lwD4Tadr
    ∧ decode .mmioWrite (sw 0x1000B440 0x89ABCDEF) = .ok (.swD4Asr0 0x89ABCDEF)
    ∧ decode .mmioRead (le4 0x1000B440) = .ok .lwD4Asr0
    ∧ decode .mmioWrite (sw 0x1000B450 0x89ABCDEF) = .ok (.swD4Asr1 0x89ABCDEF)
    ∧ decode .mmioRead (le4 0x1000B450) = .ok .lwD4Asr1
    ∧ decode .mmioWrite (sw 0x1000B480 0x89ABCDEF) = .ok (.swD4Sadr 0x89ABCDEF)
    ∧ decode .mmioRead (le4 0x1000B480) = .ok .lwD4Sadr := by decide

/-- R180, R181: channel 5, SIF0. -/
theorem test_decode_channel_5 :
    decode .mmioWrite (sw 0x1000C000 0x89ABCDEF) = .ok (.swD5Chcr 0x89ABCDEF)
    ∧ decode .mmioRead (le4 0x1000C000) = .ok .lwD5Chcr
    ∧ decode .mmioWrite (sw 0x1000C010 0x89ABCDEF) = .ok (.swD5Madr 0x89ABCDEF)
    ∧ decode .mmioRead (le4 0x1000C010) = .ok .lwD5Madr
    ∧ decode .mmioWrite (sw 0x1000C020 0x89ABCDEF) = .ok (.swD5Qwc 0x89ABCDEF)
    ∧ decode .mmioRead (le4 0x1000C020) = .ok .lwD5Qwc
    ∧ decode .mmioWrite (sw 0x1000C030 0x89ABCDEF) = .ok (.swD5Tadr 0x89ABCDEF)
    ∧ decode .mmioRead (le4 0x1000C030) = .ok .lwD5Tadr
    ∧ decode .mmioWrite (sw 0x1000C040 0x89ABCDEF) = .ok (.swD5Asr0 0x89ABCDEF)
    ∧ decode .mmioRead (le4 0x1000C040) = .ok .lwD5Asr0
    ∧ decode .mmioWrite (sw 0x1000C050 0x89ABCDEF) = .ok (.swD5Asr1 0x89ABCDEF)
    ∧ decode .mmioRead (le4 0x1000C050) = .ok .lwD5Asr1
    ∧ decode .mmioWrite (sw 0x1000C080 0x89ABCDEF) = .ok (.swD5Sadr 0x89ABCDEF)
    ∧ decode .mmioRead (le4 0x1000C080) = .ok .lwD5Sadr := by decide

/-- R180, R181: channel 6, SIF1. -/
theorem test_decode_channel_6 :
    decode .mmioWrite (sw 0x1000C400 0x89ABCDEF) = .ok (.swD6Chcr 0x89ABCDEF)
    ∧ decode .mmioRead (le4 0x1000C400) = .ok .lwD6Chcr
    ∧ decode .mmioWrite (sw 0x1000C410 0x89ABCDEF) = .ok (.swD6Madr 0x89ABCDEF)
    ∧ decode .mmioRead (le4 0x1000C410) = .ok .lwD6Madr
    ∧ decode .mmioWrite (sw 0x1000C420 0x89ABCDEF) = .ok (.swD6Qwc 0x89ABCDEF)
    ∧ decode .mmioRead (le4 0x1000C420) = .ok .lwD6Qwc
    ∧ decode .mmioWrite (sw 0x1000C430 0x89ABCDEF) = .ok (.swD6Tadr 0x89ABCDEF)
    ∧ decode .mmioRead (le4 0x1000C430) = .ok .lwD6Tadr
    ∧ decode .mmioWrite (sw 0x1000C440 0x89ABCDEF) = .ok (.swD6Asr0 0x89ABCDEF)
    ∧ decode .mmioRead (le4 0x1000C440) = .ok .lwD6Asr0
    ∧ decode .mmioWrite (sw 0x1000C450 0x89ABCDEF) = .ok (.swD6Asr1 0x89ABCDEF)
    ∧ decode .mmioRead (le4 0x1000C450) = .ok .lwD6Asr1
    ∧ decode .mmioWrite (sw 0x1000C480 0x89ABCDEF) = .ok (.swD6Sadr 0x89ABCDEF)
    ∧ decode .mmioRead (le4 0x1000C480) = .ok .lwD6Sadr := by decide

/-- R180, R181: channel 7, SIF2. -/
theorem test_decode_channel_7 :
    decode .mmioWrite (sw 0x1000C800 0x89ABCDEF) = .ok (.swD7Chcr 0x89ABCDEF)
    ∧ decode .mmioRead (le4 0x1000C800) = .ok .lwD7Chcr
    ∧ decode .mmioWrite (sw 0x1000C810 0x89ABCDEF) = .ok (.swD7Madr 0x89ABCDEF)
    ∧ decode .mmioRead (le4 0x1000C810) = .ok .lwD7Madr
    ∧ decode .mmioWrite (sw 0x1000C820 0x89ABCDEF) = .ok (.swD7Qwc 0x89ABCDEF)
    ∧ decode .mmioRead (le4 0x1000C820) = .ok .lwD7Qwc
    ∧ decode .mmioWrite (sw 0x1000C830 0x89ABCDEF) = .ok (.swD7Tadr 0x89ABCDEF)
    ∧ decode .mmioRead (le4 0x1000C830) = .ok .lwD7Tadr
    ∧ decode .mmioWrite (sw 0x1000C840 0x89ABCDEF) = .ok (.swD7Asr0 0x89ABCDEF)
    ∧ decode .mmioRead (le4 0x1000C840) = .ok .lwD7Asr0
    ∧ decode .mmioWrite (sw 0x1000C850 0x89ABCDEF) = .ok (.swD7Asr1 0x89ABCDEF)
    ∧ decode .mmioRead (le4 0x1000C850) = .ok .lwD7Asr1
    ∧ decode .mmioWrite (sw 0x1000C880 0x89ABCDEF) = .ok (.swD7Sadr 0x89ABCDEF)
    ∧ decode .mmioRead (le4 0x1000C880) = .ok .lwD7Sadr := by decide

/-- R180, R181: channel 8, SPR0. -/
theorem test_decode_channel_8 :
    decode .mmioWrite (sw 0x1000D000 0x89ABCDEF) = .ok (.swD8Chcr 0x89ABCDEF)
    ∧ decode .mmioRead (le4 0x1000D000) = .ok .lwD8Chcr
    ∧ decode .mmioWrite (sw 0x1000D010 0x89ABCDEF) = .ok (.swD8Madr 0x89ABCDEF)
    ∧ decode .mmioRead (le4 0x1000D010) = .ok .lwD8Madr
    ∧ decode .mmioWrite (sw 0x1000D020 0x89ABCDEF) = .ok (.swD8Qwc 0x89ABCDEF)
    ∧ decode .mmioRead (le4 0x1000D020) = .ok .lwD8Qwc
    ∧ decode .mmioWrite (sw 0x1000D030 0x89ABCDEF) = .ok (.swD8Tadr 0x89ABCDEF)
    ∧ decode .mmioRead (le4 0x1000D030) = .ok .lwD8Tadr
    ∧ decode .mmioWrite (sw 0x1000D040 0x89ABCDEF) = .ok (.swD8Asr0 0x89ABCDEF)
    ∧ decode .mmioRead (le4 0x1000D040) = .ok .lwD8Asr0
    ∧ decode .mmioWrite (sw 0x1000D050 0x89ABCDEF) = .ok (.swD8Asr1 0x89ABCDEF)
    ∧ decode .mmioRead (le4 0x1000D050) = .ok .lwD8Asr1
    ∧ decode .mmioWrite (sw 0x1000D080 0x89ABCDEF) = .ok (.swD8Sadr 0x89ABCDEF)
    ∧ decode .mmioRead (le4 0x1000D080) = .ok .lwD8Sadr := by decide

/-- R180, R181: channel 9, SPR1. -/
theorem test_decode_channel_9 :
    decode .mmioWrite (sw 0x1000D400 0x89ABCDEF) = .ok (.swD9Chcr 0x89ABCDEF)
    ∧ decode .mmioRead (le4 0x1000D400) = .ok .lwD9Chcr
    ∧ decode .mmioWrite (sw 0x1000D410 0x89ABCDEF) = .ok (.swD9Madr 0x89ABCDEF)
    ∧ decode .mmioRead (le4 0x1000D410) = .ok .lwD9Madr
    ∧ decode .mmioWrite (sw 0x1000D420 0x89ABCDEF) = .ok (.swD9Qwc 0x89ABCDEF)
    ∧ decode .mmioRead (le4 0x1000D420) = .ok .lwD9Qwc
    ∧ decode .mmioWrite (sw 0x1000D430 0x89ABCDEF) = .ok (.swD9Tadr 0x89ABCDEF)
    ∧ decode .mmioRead (le4 0x1000D430) = .ok .lwD9Tadr
    ∧ decode .mmioWrite (sw 0x1000D440 0x89ABCDEF) = .ok (.swD9Asr0 0x89ABCDEF)
    ∧ decode .mmioRead (le4 0x1000D440) = .ok .lwD9Asr0
    ∧ decode .mmioWrite (sw 0x1000D450 0x89ABCDEF) = .ok (.swD9Asr1 0x89ABCDEF)
    ∧ decode .mmioRead (le4 0x1000D450) = .ok .lwD9Asr1
    ∧ decode .mmioWrite (sw 0x1000D480 0x89ABCDEF) = .ok (.swD9Sadr 0x89ABCDEF)
    ∧ decode .mmioRead (le4 0x1000D480) = .ok .lwD9Sadr := by decide

/-- R182, R185. -/
theorem test_decode_global_registers :
    decode .mmioWrite (sw 0x1000E000 0x89ABCDEF) = .ok (.swCtrl 0x89ABCDEF)
    ∧ decode .mmioRead (le4 0x1000E000) = .ok .lwCtrl
    ∧ decode .mmioWrite (sw 0x1000E010 0x89ABCDEF) = .ok (.swStat 0x89ABCDEF)
    ∧ decode .mmioRead (le4 0x1000E010) = .ok .lwStat
    ∧ decode .mmioWrite (sw 0x1000E020 0x89ABCDEF) = .ok (.swPcr 0x89ABCDEF)
    ∧ decode .mmioRead (le4 0x1000E020) = .ok .lwPcr
    ∧ decode .mmioWrite (sw 0x1000E030 0x89ABCDEF) = .ok (.swSqwc 0x89ABCDEF)
    ∧ decode .mmioRead (le4 0x1000E030) = .ok .lwSqwc
    ∧ decode .mmioWrite (sw 0x1000E040 0x89ABCDEF) = .ok (.swRbsr 0x89ABCDEF)
    ∧ decode .mmioRead (le4 0x1000E040) = .ok .lwRbsr
    ∧ decode .mmioWrite (sw 0x1000E050 0x89ABCDEF) = .ok (.swRbor 0x89ABCDEF)
    ∧ decode .mmioRead (le4 0x1000E050) = .ok .lwRbor
    ∧ decode .mmioWrite (sw 0x1000E060 0x89ABCDEF) = .ok (.swStadr 0x89ABCDEF)
    ∧ decode .mmioRead (le4 0x1000E060) = .ok .lwStadr
    ∧ decode .mmioWrite (sw 0x1000F520 0x89ABCDEF) = .ok (.swEnabler 0x89ABCDEF)
    ∧ decode .mmioRead (le4 0x1000F520) = .ok .lwEnabler
    ∧ decode .mmioWrite (sw 0x1000F590 0x89ABCDEF) = .ok (.swEnablew 0x89ABCDEF)
    ∧ decode .mmioRead (le4 0x1000F590) = .ok .lwEnablew
    ∧ decode .mmioWrite (sw 0x1000E070 7) = .ok (.swGen 0x1000E070 7)
    ∧ decode .mmioRead (le4 0x1000EFFC) = .ok (.lwGen 0x1000EFFC) := by decide

/-- R190. -/
theorem test_decode_dispatchers :
    decode .dispatch (call 0x00 0x12345678 9) = .ok (.load8u 0x12345678)
    ∧ decode .dispatch (call 0x01 0x12345678 9) = .ok (.load8s 0x12345678)
    ∧ decode .dispatch (call 0x02 0x12345678 9) = .ok (.load16u 0x12345678)
    ∧ decode .dispatch (call 0x03 0x12345678 9) = .ok (.load16s 0x12345678)
    ∧ decode .dispatch (call 0x04 0x12345678 9) = .ok (.load32u 0x12345678)
    ∧ decode .dispatch (call 0x05 0x12345678 9) = .ok (.load32s 0x12345678)
    ∧ decode .dispatch (call 0x06 0x12345678 9) = .ok (.load64 0x12345678)
    ∧ decode .dispatch (call 0x08 0x12345678 9) = .ok (.load128 0x12345678)
    ∧ decode .dispatch (call 0x10 0x12345678 9) = .ok (.store8 0x12345678 9)
    ∧ decode .dispatch (call 0x12 0x12345678 9) = .ok (.store16 0x12345678 9)
    ∧ decode .dispatch (call 0x14 0x12345678 9) = .ok (.store32 0x12345678 9)
    ∧ decode .dispatch (call 0x16 0x12345678 9) = .ok (.store64 0x12345678 9)
    ∧ decode .dispatch (call 0x18 0x12345678 9) = .ok (.store128 0x12345678 9)
    ∧ decode .dispatch (call 0x07 0 0) = .bad (.notADispatcher 0x07)
    ∧ decode .dispatch (call 0x20 0 0) = .bad (.notADispatcher 0x20) := by decide

/-- V-R-17 and the end of a short read: what is no instruction is refused by name (40_registers.md R202). -/
theorem test_decode_refusals :
    decode .mmioWrite (sw 0x1000D402 1) = .bad (.unaligned 0x1000D402)
    ∧ decode .mmioRead (le4 0x1000F000) = .bad (.outside 0x1000F000)
    ∧ decode (.srcTag .ipu1) (le4 0) = .bad .tooShort := by decide

/-! ### Source-chain tags (95_test_vectors.md 3.1) -/

theorem test_V_T_1 :
    leads (exec (.srcRefe .spr1 (tag 3 0x8000)) (fetching 0x00000104 0x2000 0 0)) (fun s =>
      after s == (3, 0x8000, 0x2010, 0x00000104, true)) = true := by decide
theorem test_V_T_2 :
    leads (exec (.srcCnt .spr1 (tag 2 0)) (fetching 0x00000104 0x1000 0 0)) (fun s =>
      after s == (2, 0x1010, 0x1030, 0x10000104, false)) = true := by decide
theorem test_V_T_5 :
    leads (exec (.srcNext .spr1 (tag 1 0x3000)) (fetching 0x00000104 0x1000 0 0)) (fun s =>
      after s == (1, 0x1010, 0x3000, 0x20000104, false)) = true := by decide
theorem test_V_T_6 :
    leads (exec (.srcRef .spr1 (tag 4 0x00020000)) (fetching 0x00000104 0x1000 0 0)) (fun s =>
      after s == (4, 0x00020000, 0x1010, 0x30000104, false)) = true := by decide
theorem test_V_T_8 :
    leads (exec (.srcRefs .spr1 (tag 4 0x7FF0)) (fetching 0x00000104 0x1000 0 0)) (fun s =>
      after s == (4, 0x7FF0, 0x1010, 0x40000104, false)) = true := by decide
theorem test_V_T_9 :
    leads (exec (.srcCall .spr1 (tag 1 0x4000)) (fetching 0x00000104 0x1000 0 0)) (fun s =>
      after s == (1, 0x1010, 0x4000, 0x50000114, false) && (s.chan.get .spr1).asr0 == 0x1020) = true := by decide
theorem test_V_T_10 :
    leads (exec (.srcCall .spr1 (tag 2 0x5000)) (fetching 0x00000114 0x4000 0x1020 0)) (fun s =>
      after s == (2, 0x4010, 0x5000, 0x50000124, false) && (s.chan.get .spr1).asr1 == 0x4030) = true := by decide
theorem test_V_T_11 :
    leads (exec (.srcCall .spr1 (tag 1 0x6000)) (fetching 0x00000124 0x5000 0x1020 0x4030)) (fun s =>
      after s == (1, 0x5010, 0x5000, 0x50000124, true) && (s.chan.get .spr1).asr1 == 0x4030) = true := by decide
theorem test_V_T_12 :
    leads (exec (.srcCall .spr1 (tag 1 0x6000)) (fetching 0x00000134 0x5000 0x1020 0x4030)) (fun s =>
      after s == (1, 0x5010, 0x5000, 0x50000134, true) && (s.chan.get .spr1).asr0 == 0x1020) = true := by decide
theorem test_V_T_13 :
    leads (exec (.srcRet .spr1 (tag 0 0)) (fetching 0x00000114 0x4010 0x1020 0)) (fun s =>
      after s == (0, 0x4020, 0x1020, 0x60000104, false)) = true := by decide
theorem test_V_T_14 :
    leads (exec (.srcRet .spr1 (tag 1 0)) (fetching 0x00000124 0x5000 0x1020 0x4030)) (fun s =>
      after s == (1, 0x5010, 0x4030, 0x60000114, false) && (s.chan.get .spr1).asr0 == 0x1020) = true := by decide
theorem test_V_T_15 :
    leads (exec (.srcRet .spr1 (tag 0 0)) (fetching 0x00000104 0x1000 0 0)) (fun s =>
      after s == (0, 0x1010, 0x1000, 0x60000104, true)) = true := by decide
theorem test_V_T_18 :
    leads (exec (.srcEnd .spr1 (tag 2 0x12345670)) (fetching 0x00000104 0x3000 0 0)) (fun s =>
      after s == (2, 0x3010, 0x3000, 0x70000104, true)) = true := by decide
theorem test_V_T_22 :
    leads (exec (.srcCnt .spr1 (tag 0 0)) (fetching 0x00000104 0xFFFFFFF0 0 0)) (fun s =>
      after s == (0, 0, 0, 0x10000104, false)) = true := by decide
theorem test_V_T_19 :
    leads (exec (.srcCnt .spr1 ⟨1, 0, 0, 1, 0, 0⟩) (fetching 0x00000184 0x1000 0 0)) (fun s =>
      after s == (1, 0x1010, 0x1020, 0x90000184, true)) = true := by decide
theorem test_V_T_21 :
    leads (exec (.srcCnt .spr1 ⟨1, 0x3FF, 3, 0, 0, 0⟩) (fetching 0x00000104 0x1000 0 0)) (fun s =>
      after s == (1, 0x1010, 0x1020, 0x1FFF0104, false)) = true := by decide
/-- V-T-24: a bus error on a tag fetch; the DMAC line is high with no mask set (60_exceptions.md R605). -/
theorem test_V_T_24 :
    leads (step (withAgenda (fetching 0x00000104 0x1F000000 0 0) [.engine .spr1 1])) (fun s =>
      s.g.stat == 0x00008000 && dmacIntLine s.g.stat && after s == (0, 0, 0x1F000000, 0x00000004, false)
        && (s.eng.get .spr1).phase == .idle && s.ev.get .spr1 == none) = true := by decide
/-- R282, R366: with TTE = 1 SPR1 sends the whole tag to scratchpad at SADR. -/
theorem test_tte_spr1 :
    leads (exec (.srcRef .spr1 ⟨1, 0, 0, 0, 0x2000, 0x1111222233334444⟩) (fetching 0x00000144 0x1000 0 0)) (fun s =>
      s.memRead .spr 0 16 == 0x11112222333344440000200030000001 && (s.chan.get .spr1).sadr == 0x10) = true := by decide
/-- V-S-1 and V-S-2: SIF1 as the stall drain. -/
def drain (stadr : Word) : State :=
  chanAs { on with g := { on.g with ctrl := 0x000000C1, stadr := stadr } } .sif1
    ⟨0x00000104, 0, 0, 0x1000, 0, 0, 0⟩ (engine .tagFetch .srcChain 0)
theorem test_V_S_1 :
    leads (exec (.srcRefs .sif1 (tag 4 0x7FF0)) (drain 0x8000)) (fun s =>
      s.g.stat == 0x00002000 && (s.eng.get .sif1).phase == .stalled
        && s.chan.get .sif1 == ⟨0x00000104, 0, 0, 0x1000, 0, 0, 0⟩) = true := by decide
theorem test_V_S_3 :
    leads (exec (.srcRefs .sif1 (tag 4 0x7FF0)) (drain 0x80008030)) (fun s =>
      s.g.stat == 0 && s.chan.get .sif1 == ⟨0x40000104, 0x7FF0, 4, 0x1010, 0, 0, 0⟩) = true := by decide

/-! ### Destination-chain tags and IOP tags (3.2; 43_fifo_sif.md) -/

/-- SIF0 about to read a destination tag. -/
def reading (chcr : Word) : State :=
  chanAs on .sif0 ⟨chcr, 0, 0, 0, 0, 0, 0⟩ (engine .tagFetch .dstChain 0)
/-- QWC, MADR, CHCR, the end flag and the CNTS mark of SIF0. -/
def afterDst (s : State) : BitVec 16 × Word × Word × Bool × Bool :=
  let d := s.chan.get .sif0
  (d.qwc, d.madr, d.chcr, (s.eng.get .sif0).last, (s.eng.get .sif0).cnts)
theorem test_V_D_2 :
    leads (exec (.dstCnts .sif0 (tag 1 0x6000)) (reading 0x104)) (fun s => afterDst s == (1, 0x6000, 0x00000104, false, true)) = true := by decide
theorem test_V_D_1 :
    leads (exec (.dstCnt .sif0 (tag 2 0x5000)) (reading 0x104)) (fun s => afterDst s == (2, 0x5000, 0x10000104, false, false)) = true := by decide
theorem test_rsv2 :
    leads (exec (.dstRsv2 .sif0 (tag 1 0x5000)) (reading 0x104)) (fun s => afterDst s == (1, 0x5000, 0x20000104, false, false)) = true := by decide
theorem test_V_D_6 :
    leads (exec (.dstRsv3 .sif0 (tag 1 0x5000)) (reading 0x104)) (fun s => afterDst s == (1, 0x5000, 0x30000104, false, false)) = true := by decide
theorem test_rsv4 :
    leads (exec (.dstRsv4 .sif0 (tag 1 0x5000)) (reading 0x104)) (fun s => afterDst s == (1, 0x5000, 0x40000104, false, false)) = true := by decide
theorem test_rsv5 :
    leads (exec (.dstRsv5 .sif0 (tag 1 0x5000)) (reading 0x104)) (fun s => afterDst s == (1, 0x5000, 0x50000104, false, false)) = true := by decide
theorem test_rsv6 :
    leads (exec (.dstRsv6 .sif0 (tag 1 0x5000)) (reading 0x104)) (fun s => afterDst s == (1, 0x5000, 0x60000104, false, false)) = true := by decide
theorem test_V_D_5 :
    leads (exec (.dstEnd .sif0 (tag 0 0x7000)) (reading 0x104)) (fun s => afterDst s == (0, 0x7000, 0x70000104, true, false)) = true := by decide
theorem test_V_D_7 :
    leads (exec (.dstCnt .sif0 ⟨1, 0, 0, 1, 0x5000, 0⟩) (reading 0x184)) (fun s => afterDst s == (1, 0x5000, 0x90000184, true, false)) = true := by decide
/-- V-D-1: the tag's four words come off the FIFO. -/
theorem test_V_D_1_step :
    leads (step (withAgenda (sifAs (reading 0x104) .sif0 [0x10000002, 0x5000, 8, 9] ⟨false, false, 0, 0, 0⟩ 0 0)
      [.engine .sif0 1])) (fun s =>
        afterDst s == (2, 0x5000, 0x10000104, false, false) && (s.sif.get .sif0).fifo == []) = true := by decide
/-- V-L1-5: the IOP tag of SIF0 forwards u2 and u3 and two pads, and loads the link. -/
theorem test_iop_tag_sif0 :
    leads (exec (.iopTagSif0 ⟨0x1000, 0, 1, 0, 17, 0, 0x70000004, 0x5000⟩)
      (sifAs on .sif0 [] ⟨true, false, 0, 0, 0⟩ 0 0x800)) (fun s =>
        let x := s.sif.get .sif0
        x.fifo.take 2 == [0x70000004, 0x5000] && x.fifo.length == 4 && x.iopMadr == 0x1000 && x.iopTadr == 0x810
          && x.iop.counter == 17 && x.iop.writeJunk == 3 && x.iop.last) = true := by decide
theorem test_iop_tag_sif1 :
    leads (exec (.iopTagSif1 ⟨0x3000, 0, 0, 1, 4, 0, 0, 0⟩)
      (sifAs on .sif1 [0x80003000, 4, 0, 0, 7] ⟨true, false, 0, 0, 0⟩ 0 0)) (fun s =>
        let x := s.sif.get .sif1
        x.fifo == [7] && x.iopMadr == 0x3000 && x.iop.counter == 4 && x.iop.writeJunk == 0 && x.iop.last) = true := by
  decide
/-- V-L1-9b: the end of SIF0's IOP half halves its cycles, with a floor of 1. -/
theorem test_V_L1_9b :
    ((sifAs on .sif0 [] ⟨true, true, 0, 0, 9⟩ 0 0).endIOP .sif0).sif.sif0.iopEv = some 4
    ∧ ((sifAs on .sif0 [] ⟨true, true, 0, 0, 1⟩ 0 0).endIOP .sif0).sif.sif0.iopEv = some 1
    ∧ ((sifAs on .sif1 [] ⟨true, true, 0, 0, 9⟩ 0 0).endIOP .sif1).sif.sif1.iopEv = some 9 := by decide

/-! ### Register operations (3.4) -/

theorem test_V_R_1 :
    leads (exec (.swD9Qwc 0x12345678) on) (fun s =>
      leads (exec .lwD9Qwc s) (fun t => t.env.ret == .word 0x00005678)) = true := by decide
theorem test_V_R_2 :
    leads (exec (.swD9Madr 0x80000123) on) (fun s =>
      leads (exec .lwD9Madr s) (fun t => t.env.ret == .word 0x80000123)) = true := by decide
theorem test_V_R_3 :
    leads (exec (.swD5Madr 0x100) (chanAs on .sif0 ⟨0x100, 0x40, 1, 0, 0, 0, 0⟩ (engine .transfer .normal 1)))
      (fun s => (s.chan.get .sif0).madr == 0x40) = true := by decide
theorem test_V_R_5 :
    leads (exec (.swD9Chcr 0x100) State.reset) (fun s =>
      (s.chan.get .spr1).chcr == 0x100 && s.queued == 0x200 && (s.eng.get .spr1).phase == .queued) = true := by decide
theorem test_V_R_6 :
    leads (exec (.swD9Chcr 0x100) State.reset) (fun s => leads (exec (.swCtrl 1) s) (fun t =>
      t.queued == 0 && (t.eng.get .spr1).phase == .transfer)) = true := by decide
theorem test_V_R_9 :
    leads (exec (.swEnablew 0x00010000) on) (fun s => leads (exec (.swD8Chcr 0x100) s) (fun t =>
      t.g.enabler == 0x00010000 && t.queued == 0x100 && leads (exec (.swEnablew 0) t) (fun u =>
        u.g.enabler == 0 && u.queued == 0 && (u.eng.get .spr0).phase == .transfer))) = true := by decide
theorem test_V_R_11 : leads (exec (.swEnabler 0xFFFFFFFF) on) (fun s => s == on) = true := by decide
theorem test_V_R_12 :
    leads (exec (.swD9Chcr 0x0000010C) on) (fun s =>
      (s.chan.get .spr1).chcr == 0x00000104 && (s.eng.get .spr1).mode == .srcChain
        && (s.eng.get .spr1).phase == .tagFetch) = true := by decide
theorem test_V_R_13 :
    leads (exec (.swD9Chcr 0x0000010C) { on with params := { Params.default with mod3AsChain := false } }) (fun s =>
      (s.chan.get .spr1).chcr == 0x0000010C && s.faults == [.unsupportedMode .spr1 3]) = true := by decide
/-- R214, R322: the quirk off faults on a channel 0..2 too (log 29); with it on, the channel goes to the external pump. -/
theorem test_mod3_external :
    leads (exec (.swD2Chcr 0x0000010C) { on with params := { Params.default with mod3AsChain := false } }) (fun s =>
      (s.chan.get .gif).chcr == 0x0000010C && s.faults == [.unsupportedMode .gif 3])
    && leads (exec (.swD2Chcr 0x0000010C) on) (fun s =>
      (s.chan.get .gif).chcr == 0x00000104 && (s.eng.get .gif).phase == .external && s.faults == []) = true := by decide
theorem test_V_R_14 :
    leads (exec (.swD3Chcr 0x00000108) on) (fun s => s.faults == [.unsupportedMode .ipu0 2]) = true := by decide
theorem test_V_R_16 :
    leads (exec (.swGen 0x1000E070 7) on) (fun s => leads (exec (.lwGen 0x1000E070) s) (fun t =>
      t.env.ret == .word 7)) = true := by decide
theorem test_V_R_18 :
    step (withAgenda on [.hostWrite .w16 0x1000D400 0]) = .next (refusing on (.unmodelledAccess 0x1000D400 .w16))
    ∧ step (withAgenda (refusing on (.unmodelledAccess 0x1000D400 .w16)) [.reset]) =
      .refused (.unmodelledAccess 0x1000D400 .w16) := ⟨rfl, rfl⟩
theorem test_V_R_19 :
    leads (exec (.swPcr 0x80000001) on) (fun s => s == { on with g := { on.g with pcr := 0x80000001 } }) = true := by decide
theorem test_V_R_20 :
    leads (exec (.swSqwc 0x00100002) on) (fun s => sqwcTq s.g.sqwc == 16 && sqwcSkip s.g.sqwc == 2) = true := by decide
theorem test_V_L1_7 :
    ([(0x03000321, 0x01000301, 0x02000020), (0x03000321, 0, 0x03000321), (0x00000200, 0x02000200, 0x02000000),
      (0x6200E3FF, 0xFFFFFFFF, 0x9DFF0000), (0, 0x0000FFFF, 0)] : List (Word × Word × Word)).all
      (fun x => leads (exec (.swStat x.2.1) { on with g := { on.g with stat := x.1 } }) fun s => s.g.stat == x.2.2)
      = true := by decide
theorem test_interrupt_line :
    ([(0, false), (0x00000200, false), (0x02000200, true), (0x02000100, false), (0x00002000, false), (0x20002000, true),
      (0x40004000, true), (0x00008000, true)] : List (Word × Bool)).all (fun x => dmacIntLine x.1 == x.2) = true := by
  decide

/-! ### Engines (3.5), events and faults -/

set_option maxRecDepth 4096 in
/-- V-E-2: the scratchpad offset wraps. -/
theorem test_V_E_2 :
    leads (step (withAgenda (chanAs (on.memWrite .ram 0x1000 16 0xA5) .spr1 ⟨0x100, 0x1000, 2, 0, 0, 0, 0x3FF0⟩
      (engine .transfer .normal 2)) [.engine .spr1 1])) (fun s =>
        s.memRead .spr 0x3FF0 16 == 0xA5
          && s.chan.get .spr1 == ⟨0x100, 0x1010, 1, 0, 0, 0, 0⟩) = true := by decide
/-- V-E-4: the second quadword of a block of two is followed by the skip. -/
theorem test_V_E_4 :
    leads (step (withAgenda (chanAs { on with g := { on.g with sqwc := 0x00020001 } } .spr1
      ⟨0x108, 0x1000, 4, 0, 0, 0, 0⟩ (engine .transfer .interleave 4)) [.engine .spr1 2])) (fun s =>
        s.chan.get .spr1 == ⟨0x108, 0x1030, 2, 0, 0, 0, 0x20⟩ && (s.eng.get .spr1).blk == 0) = true := by decide
/-- V-E-8: the ring buffer of the MFIFO wraps. -/
theorem test_V_E_8 :
    leads (step (withAgenda (chanAs { on with g := { on.g with ctrl := 9, rbor := 0x00100000, rbsr := 0x00000FF0 } } .spr0
      ⟨0x100, 0x00100FF0, 2, 0, 0, 0, 0⟩ (engine .transfer .normal 2)) [.engine .spr0 1])) (fun s =>
        (s.chan.get .spr0).madr == 0x00100000) = true := by decide
/-- V-S-9, in the step that moves the last quadword: the stall source drops bit 31. -/
theorem test_V_S_9 :
    leads (step (withAgenda (chanAs { on with g := { on.g with ctrl := 0x31 }, ipu := ⟨[], [5], false⟩ } .ipu0
      ⟨0x100, 0x80002000, 1, 0, 0, 0, 0⟩ (engine .transfer .normal 1)) [.engine .ipu0 1])) (fun s =>
        s.g.stadr == 0x00002010 && s.memRead .spr 0x2000 16 == 5 && (s.eng.get .ipu0).phase == .completing
          && (s.ev.get .ipu0).isSome) = true := by decide
/-- V-T-25: a bus error at the first quadword of a link. -/
theorem test_V_T_25 :
    leads (step (withAgenda (chanAs on .spr1 ⟨0x30000104, 0x1F000000, 2, 0x1010, 0, 0, 0⟩
      (engine .transfer .srcChain 2)) [.engine .spr1 1])) (fun s =>
        s.g.stat == 0x00008000 && s.chan.get .spr1 == ⟨0x30000004, 0x1F000000, 2, 0x1010, 0, 0, 0⟩) = true := by decide
/-- R425, R435: a word goes from IOP RAM to the FIFO and from the FIFO to IOP RAM. -/
theorem test_iop_data :
    leads (step (withAgenda (sifAs (on.memWrite .iopRam 0x1000 4 0xCAFE) .sif0 [1] ⟨true, true, 2, 2, 0⟩ 0x1000 0)
      [.iopHalf .sif0 1])) (fun s =>
        (s.sif.get .sif0).fifo == [1, 0xCAFE] && (s.sif.get .sif0).iopMadr == 0x1004
          && (s.sif.get .sif0).iop.counter == 1)
    && leads (step (withAgenda (sifAs on .sif1 [0xBEEF, 2] ⟨true, true, 2, 2, 0⟩ 0x1000 0) [.iopHalf .sif1 1])) (fun s =>
        (s.sif.get .sif1).fifo == [2] && s.memRead .iopRam 0x1000 4 == 0xBEEF) = true := by decide
/-- R606: the completion event. -/
theorem test_completion :
    leads (step (withAgenda { chanAs on .spr1 ⟨0x100, 0, 0, 0, 0, 0, 0⟩ (engine .completing .normal 0) with
      ev := on.ev.set .spr1 (some 1) } [.fire .spr1])) (fun s =>
        s.g.stat == 0x200 && (s.chan.get .spr1).chcr == 0 && (s.eng.get .spr1).phase == .idle
          && s.ev.get .spr1 == none) = true := by decide
/-- R322: from a state with a fault record the machine stops. -/
theorem test_stopped :
    step { on with faults := [.unsupportedMode .ipu0 2] } = .fault (.stopped (.unsupportedMode .ipu0 2)) := rfl

/-! ### The VTLB (44_vtlb.md) -/

/-- `mapped` with a quadword at the start of scratchpad, which page 1 maps. -/
def filled : State := mapped.memWrite .spr 0 16 0x00112233445566770FEDCBA987654321
/-- R491, R494: each load, at an address that shows its width, its byte order and its extension. -/
theorem test_loads :
    (leads (exec (.load8u 0x1003) filled) (fun s => s.env.ret == .dword 0x87)
      && leads (exec (.load8s 0x1003) filled) (fun s => s.env.ret == .dword 0xFFFFFFFFFFFFFF87)
      && leads (exec (.load16u 0x1002) filled) (fun s => s.env.ret == .dword 0x8765)
      && leads (exec (.load16s 0x1002) filled) (fun s => s.env.ret == .dword 0xFFFFFFFFFFFF8765)
      && leads (exec (.load32u 0x1000) filled) (fun s => s.env.ret == .dword 0x87654321)
      && leads (exec (.load32s 0x1000) filled) (fun s => s.env.ret == .dword 0xFFFFFFFF87654321)
      && leads (exec (.load64 0x1000) filled) (fun s => s.env.ret == .dword 0x0FEDCBA987654321)
      && leads (exec (.load128 0x1000) filled) (fun s => s.env.ret == .quad 0x00112233445566770FEDCBA987654321)) = true := by decide
/-- R492: each store writes its low bytes, least significant first, and no others. -/
theorem test_stores :
    (leads (exec (.store8 0x1001 0x11223344556677889900AABBCCDDEEFF) mapped) (fun s => s.memRead .spr 0 16 == 0xFF00)
      && leads (exec (.store16 0x1002 0x11223344556677889900AABBCCDDEEFF) mapped) (fun s => s.memRead .spr 0 16 == 0xEEFF0000)
      && leads (exec (.store32 0x1004 0x11223344556677889900AABBCCDDEEFF) mapped) (fun s => s.memRead .spr 0 16 == 0xCCDDEEFF00000000)
      && leads (exec (.store64 0x1008 0x11223344556677889900AABBCCDDEEFF) mapped) (fun s => s.memRead .spr 0 16 == 0x9900AABBCCDDEEFF0000000000000000)
      && leads (exec (.store128 0x1000 0x11223344556677889900AABBCCDDEEFF) mapped) (fun s => s.memRead .spr 0 16 == 0x11223344556677889900AABBCCDDEEFF)) = true := by decide
/-- R485: page 2 is the DMAC, so a store starts a channel and a load reads a register. -/
theorem test_dmac_page :
    leads (exec (.store32 0x2400 0x100) mapped) (fun s =>
      (s.eng.get .spr1).phase == .transfer && leads (exec (.load32s 0x2400) s) (fun t =>
        t.env.ret == .dword 0x100)) = true := by decide
theorem test_external_page :
    leads (exec (.store16 0x3002 0xABCDEF) mapped) (fun s =>
      s.env.out == some (.handlerWrite (.external 7) .w16 0x1F000002 0xCDEF)) = true := by decide
theorem test_vtlb_refusals :
    exec (.load32u 0x1002) mapped = .next (refusing mapped (.misalignedAccess 0x1002 .w32))
    ∧ exec (.store8 0x1000 0) on = .next (refusing on (.dispatchBeforeInit 0x1000 .w8))
    ∧ exec (.load64 0x2400) mapped = .next (refusing mapped (.unmodelledAccess 0x1000D400 .w64)) := ⟨rfl, rfl, rfl⟩
/-- The last byte of scratchpad is readable; for the next, which is not there, the default handler is called (log 14). -/
theorem test_end_of_memory :
    leads (exec (.load8u 0x400F) mapped) (fun s => s.env.ret == .dword 0 && s.env.out == none)
    && leads (exec (.load8u 0x4010) mapped) (fun s => s.env.out == some (.handlerRead .default .w8 0x4010))
    && leads (exec (.store16 0x400E 0xABCD) mapped) (fun s => s.readByte .spr 0x3FFF == 0xAB)
    && leads (exec (.store16 0x4010 0xABCD) mapped) (fun s =>
      s.env.out == some (.handlerWrite .default .w16 0x4010 0xABCD)) = true := by decide
/-- R480: a guest address has `VaddrBits` bits. -/
theorem test_vaddr_bits :
    leads (exec (.load8u 0x00F01000) { filled with params := { Params.default with vaddrBits := 16 } }) (fun s =>
      s.env.ret == .dword 0x21) = true := by decide
/-- V-L1-6: the second call of the initialiser changes nothing. -/
theorem test_V_L1_6 :
    leads (step (withAgenda on [.vtlbInit])) (fun s =>
      s.vtlb.dispatch == validSelectors && s.vtlb.codePerm == .rx && s.vtlb.genCount == 1
        && leads (step (withAgenda s [.vtlbInit])) (fun t => t == s)) = true := by decide

/-! ### The fetch of a placed word -/

theorem test_withFetchWord :
    decodeTableWord 32 0x10000002 = some (.srcCnt .spr1 (tag 2 0))
    ∧ leads (step (State.reset.withFetchWord 32 0x10000002)) (fun s => (s.chan.get .spr1).qwc == 2) = true
    ∧ decodeTableWord 32 0x1000E020 = some (.swPcr 0)
    ∧ decodeTableWord 8 0x14 = some (.store32 0 0) := by decide

/-! ### Witnesses: states and operands that meet the hypotheses of each statement, clause by clause -/

/-- SPR1 moving two quadwords in Normal mode. -/
def moving : State := chanAs on .spr1 ⟨0x100, 0x1000, 2, 0, 0, 0, 0⟩ (engine .transfer .normal 2)

/-- SPR1 about to complete. -/
def ending : State :=
  { chanAs on .spr1 ⟨0x100, 0x1000, 0, 0, 0, 0, 0⟩ (engine .completing .normal 0) with ev := on.ev.set .spr1 (some 1) }

/-- Four words of a tag at the head of a SIF FIFO. -/
def tagWords : List Word := [0x10000002, 0x5000, 8, 9]

theorem test_witness_DecodeOfEncode :
    (Instr.swGen 0x10008004 0).wellFormed = true ∧ (Instr.lwGen 0x1000EFFC).wellFormed = true
      ∧ (Instr.srcCall .ipu1 ⟨0xFFFF, 0x3FF, 3, 1, 0xFFFFFFFF, 0xFFFFFFFFFFFFFFFF⟩).wellFormed = true
      ∧ (Instr.iopTagSif1 ⟨0xFFFFFF, 0x3F, 1, 1, 0xFFFFF, 0xFFF, 1, 2⟩).wellFormed = true := by decide

theorem test_witness_EncodeOfDecode :
    decode .dispatch (call 0x18 0xFFFFFFFF 9) = .ok (.store128 0xFFFFFFFF 9)
      ∧ decode .dispatch (call 0x00 0 9) = .ok (.load8u 0)
      ∧ decode .mmioRead (le4 0x1000EFFC ++ [1]) = .ok (.lwGen 0x1000EFFC) := by decide

theorem test_witness_MmioDecodeIsTheAddressMap :
    decodeMmio 0x1000D480 = .chan .spr1 .sadr ∧ decodeMmio 0x1000F590 = .global .enablew
      ∧ decodeMmio 0x10008001 = .unaligned ∧ decodeMmio 0xFFFFFFFF = .unaligned
      ∧ decodeMmio 0x10008004 = .generic 0x10008004 ∧ decodeMmio 0x1000EFFC = .generic 0x1000EFFC
      ∧ decodeMmio 0x10007FFC = .outside ∧ decodeMmio 0x1000F000 = .outside := by decide

theorem test_witness_DispatcherSelectorSet :
    (0x07 : BitVec 5) ∉ ([0x00, 0x01, 0x02, 0x03, 0x04, 0x05, 0x06, 0x08, 0x10, 0x12, 0x14, 0x16, 0x18] : List (BitVec 5))
      ∧ (0x1F : BitVec 5) ∉
        ([0x00, 0x01, 0x02, 0x03, 0x04, 0x05, 0x06, 0x08, 0x10, 0x12, 0x14, 0x16, 0x18] : List (BitVec 5))
      ∧ on.running := by decide

theorem test_witness_StepRunsDecodedInstruction_host :
    on.running ∧ decode .mmioWrite (encodeWrite 0x1000D420 ((4 : Quad).setWidth 32)) = .ok (.swD9Qwc 4)
      ∧ decode .mmioRead (encodeRead 0x1000D420) = .ok .lwD9Qwc
      ∧ decode .dispatch (encodeDispatch 0x04 0x100 0) = .ok (.load32u 0x100) := by decide

theorem test_witness_StepRunsDecodedInstruction_source :
    let s := fetching 0x104 0x80000000 0 0
    s.running ∧ runnable s.g ∧ (s.eng.get .spr1).phase = .tagFetch ∧ (s.eng.get .spr1).mode = .srcChain
      ∧ s.dmaAddr (s.chan.get .spr1).tadr false = some ⟨.spr, 0⟩
      ∧ decode (.srcTag .spr1) ((s.mem.get .spr).readBytes 0 16) = .ok (.srcRefe .spr1 (tag 0 0)) := by
  delta runnable; decide

theorem test_witness_StepRunsDecodedInstruction_sif1 :
    let s := chanAs on .sif1 ⟨0x144, 0, 0, 0x1000, 0, 0, 0⟩ (engine .tagFetch .srcChain 0)
    s.running ∧ runnable s.g ∧ (s.eng.get .sif1).phase = .tagFetch ∧ (s.eng.get .sif1).mode = .srcChain
      ∧ (s.chan.get .sif1).chcr.getLsbD 6 = true ∧ 2 ≤ s.sifFree .sif1
      ∧ s.dmaAddr (s.chan.get .sif1).tadr false = some ⟨.ram, 0x1000⟩
      ∧ decode (.srcTag .sif1) ((s.mem.get .ram).readBytes 0x1000 16) = .ok (.srcRefe .sif1 (tag 0 0)) := by
  delta runnable; decide

theorem test_witness_StepRunsDecodedInstruction_destination :
    let s := sifAs (reading 0x104) .sif0 tagWords ⟨false, false, 0, 0, 0⟩ 0 0
    let r := chanAs on .spr0 ⟨0x104, 0, 0, 0, 0, 0, 0x3FF0⟩ (engine .tagFetch .dstChain 0)
    runnable s.g ∧ (s.eng.get .sif0).phase = .tagFetch ∧ (s.eng.get .sif0).mode = .dstChain ∧ s.running
      ∧ (s.sif.get .sif0).fifo = 0x10000002 :: 0x5000 :: 8 :: 9 :: []
      ∧ decode (.dstTag .sif0) (leBytes 16 ((9 : Word) ++ ((8 : Word) ++ ((0x5000 : Word) ++ (0x10000002 : Word))))) =
        .ok (.dstCnt .sif0 ⟨2, 0, 0, 0, 0x5000, 0x0000000900000008⟩)
      ∧ runnable r.g ∧ (r.eng.get .spr0).phase = .tagFetch ∧ (r.eng.get .spr0).mode = .dstChain ∧ r.running
      ∧ decode (.dstTag .spr0) (r.mem.spr.readBytes ((r.chan.get .spr0).sadr &&& 0x3FF0).toNat 16) =
        .ok (.dstCnts .spr0 (tag 0 0)) := by
  delta runnable; decide

theorem test_witness_StepRunsDecodedInstruction_iop :
    let s := sifAs on .sif0 [] ⟨true, false, 0, 0, 0⟩ 0 0x800
    let r := sifAs on .sif1 tagWords ⟨true, false, 0, 0, 0⟩ 0 0
    s.running ∧ (s.sif.get .sif0).iop = ⟨true, false, 0, 0, 0⟩ ∧ 4 ≤ s.sifFree .sif0
      ∧ decode .iopTagSif0 (leBytes 16 (s.iopRead ((s.sif.get .sif0).iopTadr + 12)
        ++ (s.iopRead ((s.sif.get .sif0).iopTadr + 8) ++ (s.iopRead ((s.sif.get .sif0).iopTadr + 4)
        ++ s.iopRead (s.sif.get .sif0).iopTadr)))) = .ok (.iopTagSif0 ⟨0, 0, 0, 0, 0, 0, 0, 0⟩)
      ∧ r.running ∧ (r.sif.get .sif1).iop = ⟨true, false, 0, 0, 0⟩
      ∧ (r.sif.get .sif1).fifo = 0x10000002 :: 0x5000 :: 8 :: 9 :: []
      ∧ decode .iopTagSif1 (leBytes 16 ((9 : Word) ++ ((8 : Word) ++ ((0x5000 : Word) ++ (0x10000002 : Word))))) =
        .ok (.iopTagSif1 ⟨2, 0x10, 0, 0, 0x5000, 0, 8, 9⟩) := by decide

theorem test_witness_ResetActionRestoresTheBlock : moving.running := ⟨rfl, rfl⟩

theorem test_witness_StepKeepsMemoryCanonical :
    let s := withAgenda (filled.mmuMap 9 (.direct .ram 0)) [.engine .spr1 1]
    s.memoryCanonical ∧ ∃ s', step s = .next s' ∧ true = true :=
  ⟨by delta State.memoryCanonical; decide, exists_of_leads (p := fun _ => true) (by decide)⟩

theorem test_witness_StepKeepsFifosBounded :
    let s := withAgenda (sifAs on .sif0 tagWords ⟨true, false, 0, 3, 0⟩ 0 0) [.iopHalf .sif0 1]
    s.fifosBounded ∧ ∃ s', step s = .next s' ∧ ((s'.sif.get .sif0).fifo.length == 7) = true :=
  ⟨⟨fun f => by cases f <;> decide, by decide, by decide⟩, exists_of_leads (by decide)⟩

theorem test_witness_StepKeepsRunInvariant :
    let s := withAgenda moving [.engine .spr1 2]
    s.runInv ∧ ∃ s', step s = .next s' ∧ ((s'.eng.get .spr1).phase == .completing) = true :=
  ⟨fun _ => ⟨fun c => by cases c <;> decide, fun c => by cases c <;> decide, fun c => by cases c <;> decide,
      fun c => by cases c <;> exact ⟨by first | exact trivial | exact (rfl : Ch.inScope .spr1 = true), trivial,
        by delta readsTags; decide⟩,
      fun c => by cases c <;> decide, fun c => by cases c <;> decide⟩,
    exists_of_leads (by decide)⟩

theorem test_witness_StepKeepsVtlbWriteXorExec :
    (withAgenda on [.vtlbInit]).vtlbWriteXorExec ∧ (withAgenda mapped [.vtlbInit]).vtlbWriteXorExec
      ∧ (∃ s', step (withAgenda on [.vtlbInit]) = .next s' ∧ (s'.vtlb.genCount == 1) = true)
      ∧ ∃ s', step (withAgenda mapped [.vtlbInit]) = .next s' ∧ (s'.vtlb.genCount == 1) = true :=
  ⟨by delta State.vtlbWriteXorExec; decide, by delta State.vtlbWriteXorExec; decide, exists_of_leads (by decide),
    exists_of_leads (by decide)⟩

theorem test_witness_StepKeepsEnablerReservedBitsAndParameters :
    let s := withAgenda on [.hostWrite .w32 0x1000F590 0x10000]
    s.enablerMirrors ∧ s.statReservedClear ∧ ∃ s', step s = .next s' ∧ (s'.g.enabler == 0x10000) = true :=
  ⟨rfl, rfl, exists_of_leads (by decide)⟩

theorem test_witness_StatusBitCauses :
    (∃ s', step (withAgenda ending [.fire .spr1]) = .next s'
        ∧ (!ending.g.stat.getLsbD 9 && s'.g.stat.getLsbD 9) = true)
      ∧ (∃ s', step (withAgenda (chanAs on .vif0 ⟨0x100, 0, 0, 0, 0, 0, 0⟩ (engine .external .normal 0))
          [.extPump .vif0 .setCis]) = .next s' ∧ s'.g.stat.getLsbD 0 = true)
      ∧ (∃ s', step (withAgenda ((drain 0).memWrite .ram 0x1000 16 0x40000001) [.engine .sif1 1]) = .next s'
        ∧ s'.g.stat.getLsbD 13 = true)
      ∧ (∃ s', step (withAgenda on [.mfifoEmpty]) = .next s' ∧ s'.g.stat.getLsbD 14 = true)
      ∧ ∃ s', step (withAgenda (fetching 0x104 0x1F000000 0 0) [.engine .spr1 1]) = .next s'
        ∧ s'.g.stat.getLsbD 15 = true :=
  ⟨exists_of_leads (by decide), exists_of_leads (by decide), exists_of_leads (by decide), exists_of_leads (by decide),
    exists_of_leads (by decide)⟩

/-- BEIS of a transfer whose second quadword resolves to nothing. -/
theorem test_witness_StatusBitCauses_transfer :
    ∃ s', step (withAgenda (chanAs on .spr1 ⟨0x100, 0x01FFFFF0, 2, 0, 0, 0, 0⟩ (engine .transfer .normal 2))
      [.engine .spr1 2]) = .next s' ∧ s'.g.stat.getLsbD 15 = true :=
  exists_of_leads (by decide)

theorem test_witness_CompletionBitMeansTheRunEnded :
    Ch.inScope .spr1 = true ∧ (withAgenda ending [.fire .spr1]).g.stat.getLsbD 9 = false
      ∧ ∃ s', step (withAgenda ending [.fire .spr1]) = .next s' ∧ s'.g.stat.getLsbD 9 = true :=
  ⟨rfl, rfl, exists_of_leads (by decide)⟩

theorem test_witness_StatusBitsAreSticky :
    let s := { on with g := { on.g with stat := 0x8001 } }
    (∃ s', step (withAgenda s [.hostWrite .w32 0x1000E010 0x8000]) = .next s'
        ∧ (s.g.stat.getLsbD 15 && !s'.g.stat.getLsbD 15) = true)
      ∧ ∃ s', step (withAgenda s [.reset]) = .next s' ∧ (s.g.stat.getLsbD 0 && !s'.g.stat.getLsbD 0) = true :=
  ⟨exists_of_leads (by decide), exists_of_leads (by decide)⟩

/-- The host acknowledges BEIS by a store on a page that the DMAC handler serves, generated or interpreted. -/
theorem test_witness_StatusBitsAreSticky_store :
    let s := (mapped.mmuMap 5 (.handler .dmac 0x1000E000)).hwDmacIrq 15
    (∃ s', step (withAgenda s [.dispatch 0x14 0x5010 0x8000]) = .next s'
        ∧ (s.g.stat.getLsbD 15 && !s'.g.stat.getLsbD 15) = true)
      ∧ (∃ s', step (withAgenda s [.interpret true .w32 true 0x5010 0x8000]) = .next s'
        ∧ (s.g.stat.getLsbD 15 && !s'.g.stat.getLsbD 15) = true)
      ∧ s.vtlbEntry (page s 0x5010) = .handler .dmac 0x1000E000
      ∧ (0x1000E000 : Word) + BitVec.ofNat 32 (offset s 0x5010) = 0x1000E010 :=
  ⟨exists_of_leads (by decide), exists_of_leads (by decide), by decide, by decide⟩

theorem test_witness_BusyRegistersBelongToTheEngine :
    let s := withAgenda moving [.hostWrite .w32 0x1000D410 0xFF]
    Ch.inScope .spr1 = true ∧ busy s .spr1 ∧ (∀ n, s.head ≠ .engine .spr1 n) ∧ s.head ≠ .reset
      ∧ ∃ s', step s = .next s' ∧ ((s'.chan.get .spr1).madr == 0x1000) = true :=
  ⟨rfl, rfl, fun _ => nofun, nofun, exists_of_leads (by decide)⟩

theorem test_witness_EngineStepTouchesOnlyItsChannel :
    let s := withAgenda moving [.engine .spr1 1]
    s.head = .engine .spr1 1 ∧ ∃ s', step s = .next s' ∧ ((s'.chan.get .spr1).madr == 0x1010) = true :=
  ⟨rfl, exists_of_leads (by decide)⟩

/-- The external pump of VIF0 writes a register, and that of a channel in scope does nothing. -/
theorem test_witness_EngineStepTouchesOnlyItsChannel_pump :
    let s := withAgenda (chanAs on .vif0 ⟨0x100, 0, 0, 0, 0, 0, 0⟩ (engine .external .normal 0))
      [.extPump .vif0 (.writeReg .madr 5)]
    let r := withAgenda moving [.extPump .spr1 .clearStr]
    s.head = .extPump .vif0 (.writeReg .madr 5) ∧ (∃ s', step s = .next s' ∧ ((s'.chan.get .vif0).madr == 5) = true)
      ∧ r.head = .extPump .spr1 .clearStr ∧ Ch.inScope .spr1 = true
      ∧ ∃ s', step r = .next s' ∧ (s'.chan == r.chan) = true :=
  ⟨rfl, exists_of_leads (by decide), rfl, rfl, exists_of_leads (by decide)⟩

theorem test_witness_FifosHaveOneOwner :
    let s := sifAs { on with ipu := ⟨[1], [2], true⟩ } .sif0 tagWords ⟨true, false, 1, 0, 0⟩ 0 0
    (∃ s', step (withAgenda s [.iopHalf .sif0 1]) = .next s'
        ∧ ((s'.sif.get .sif0).fifo != (s.sif.get .sif0).fifo) = true)
      ∧ (∃ s', step (withAgenda s [.ipuPop]) = .next s' ∧ (s'.ipu.inFifo != s.ipu.inFifo) = true)
      ∧ (∃ s', step (withAgenda s [.ipuPush 3]) = .next s' ∧ (s'.ipu.outFifo != s.ipu.outFifo) = true)
      ∧ ∃ s', step (withAgenda s [.reset]) = .next s' ∧ (s'.ipu.outFifo != s.ipu.outFifo) = true :=
  ⟨exists_of_leads (by decide), exists_of_leads (by decide), exists_of_leads (by decide), exists_of_leads (by decide)⟩

theorem test_witness_VtlbIsImmutableAfterInit :
    let s := withAgenda mapped [.mmuMap 5 (.direct .ram 0)]
    s.head ≠ .reset ∧ s.vtlb.init = true ∧ ∃ s', step s = .next s' ∧ (s'.vtlb.vmap != s.vtlb.vmap) = true :=
  ⟨nofun, rfl, exists_of_leads (by decide)⟩

/-- The first and the last page. -/
theorem test_witness_VtlbIsImmutableAfterInit_map :
    mapped.running ∧ 0 < 2 ^ (mapped.params.vaddrBits - mapped.params.vtlbPageBits)
      ∧ 0xFFFFF < 2 ^ (mapped.params.vaddrBits - mapped.params.vtlbPageBits) := by decide

theorem test_witness_EnginesHoldWhileNotRunnable :
    let s := { moving with g := { moving.g with enabler := 0x10000, enablew := 0x10000 } }
    s.running ∧ Ch.inScope .spr1 = true ∧ ¬ runnable s.g ∧ ¬ runnable State.reset.g := by
  delta runnable; decide

/-- SIF2's IOP half, and other channel registers that keep SIF2's DIR. -/
theorem test_witness_IopHalvesIgnoreTheEeDmac :
    (sifAs on .sif2 [] ⟨true, true, 1, 3, 0⟩ 0 0).running
      ∧ ((chanAs on .sif2 ⟨0x100, 1, 1, 1, 1, 1, 1⟩ .reset).chan.get .sif2).chcr.getLsbD 0 =
        ((sifAs on .sif2 [] ⟨true, true, 1, 3, 0⟩ 0 0).chan.get .sif2).chcr.getLsbD 0 := by decide

theorem test_witness_OnlyStoresAndTagTransfersWriteMemory :
    (∃ s', exec (.srcRef .spr1 (tag 1 0x2000)) (fetching 0x104 0x1000 0 0) = .next s'
        ∧ ((s'.chan.get .spr1).qwc == 1) = true)
      ∧ ¬ isStore (.srcRef .spr1 (tag 1 0x2000))
      ∧ ((fetching 0x104 0x1000 0 0).chan.get .spr1).chcr.getLsbD 6 = false :=
  ⟨exists_of_leads (by decide), id, rfl⟩

theorem test_witness_RegisterWriteFrame :
    (∃ s', exec (.swChan .spr1 .chcr 0x100) on = .next s' ∧ ((s'.eng.get .spr1).phase == .transfer) = true)
      ∧ (∃ s', exec (.swGlobal .enablew 0x10000) on = .next s' ∧ (s'.g.enabler == 0x10000) = true)
      ∧ on.isQueued .spr1 = false
      ∧ isGeneric 0x1000EFFC = true
      ∧ ∃ s', exec (.swGen 0x1000EFFC 7) on = .next s' ∧ (s'.genRead 0x1000EFFC == 7) = true :=
  ⟨exists_of_leads (by decide), exists_of_leads (by decide), rfl, by decide, exists_of_leads (by decide)⟩

theorem test_witness_SourceTagFrame :
    (∃ s', exec (.srcCall .spr1 (tag 1 0x4000)) (fetching 0x144 0x1000 0 0) = .next s'
        ∧ ((s'.chan.get .spr1).sadr == 0x10) = true)
      ∧ Instr.srcCall .spr1 (tag 1 0x4000) ∈ srcTags .spr1 (tag 1 0x4000)
      ∧ (∃ s', exec (.srcRefs .sif1 (tag 4 0x7FF0)) (drain 0x8000) = .next s' ∧ (s'.g.stat == 0x2000) = true)
      ∧ Instr.srcRefs .sif1 (tag 4 0x7FF0) ∈ srcTags .sif1 (tag 4 0x7FF0) :=
  ⟨exists_of_leads (by decide), by decide, exists_of_leads (by decide), by decide⟩

theorem test_witness_ChannelRegisterWrite :
    ChanReg.sadr ≠ .chcr ∧ busy moving .spr1 ∧ ¬ busy on .spr1 ∧ ¬ busy moving .vif0 := by
  delta busy; decide

theorem test_witness_ChcrWriteToBusyChannel :
    busy moving .spr1 ∧ (0x100 : Word).getLsbD 8 = true ∧ (0xFFFFFEFF : Word).getLsbD 8 = false := by
  delta busy; decide

theorem test_witness_ChcrWriteToIdleChannel :
    ¬ busy State.reset .vif0 ∧ ¬ runnable State.reset.g ∧ (0x10C : Word).getLsbD 8 = true
      ∧ (0x0C : Word).getLsbD 8 = false := by
  delta busy runnable; decide

theorem test_witness_ChcrWriteToIdleChannel_start :
    ¬ busy on .gif ∧ ¬ busy on .spr0 ∧ runnable on.g ∧ (0x10C : Word).getLsbD 8 = true
      ∧ ¬ unsupported on.params .gif ((committed on.params 0x10C).extractLsb' 2 2)
      ∧ ¬ unsupported on.params .spr0 ((committed on.params 0x10C).extractLsb' 2 2)
      ∧ ¬ unsupported on.params .spr0 ((committed on.params 0x108).extractLsb' 2 2)
      ∧ ¬ unsupported on.params .ipu0 ((committed on.params 0x100).extractLsb' 2 2) := by
  delta busy runnable unsupported; decide

theorem test_witness_UnsupportedModeStopsTheMachine :
    ¬ busy on .ipu0 ∧ (0x108 : Word).getLsbD 8 = true ∧ runnable on.g
      ∧ unsupported on.params .ipu0 ((committed on.params 0x108).extractLsb' 2 2)
      ∧ unsupported on.params .sif1 ((committed on.params 0x108).extractLsb' 2 2)
      ∧ { on with faults := [.unsupportedMode .ipu0 2] }.faults = .unsupportedMode .ipu0 2 :: [] := by
  delta busy runnable unsupported; decide

/-- The quirk off: MOD = 3 on VIF0 and on SPR1. -/
theorem test_witness_UnsupportedModeStopsTheMachine_mod3 :
    let p := { Params.default with mod3AsChain := false }
    unsupported p .vif0 ((committed p 0x10C).extractLsb' 2 2) ∧ unsupported p .spr1 ((committed p 0x10C).extractLsb' 2 2)
      ∧ ¬ busy { on with params := p } .vif0 := by
  delta busy unsupported; decide

theorem test_witness_RegisterReads : isGeneric 0x10008004 = true ∧ isGeneric 0x1000EFFC = true := by decide

theorem test_witness_GlobalRegisterWrites :
    ¬ (on.g.ctrl.getLsbD 0 = false ∧ (1 : Word).getLsbD 0 = true)
      ∧ ¬ (State.reset.g.ctrl.getLsbD 0 = false ∧ (0xFFFFFFFE : Word).getLsbD 0 = true)
      ∧ ¬ (on.g.enablew.getLsbD 16 = true ∧ (0 : Word).getLsbD 16 = false) := by decide

/-- A queued, busy SPR1 and a DMAC held by CTRL or by ENABLEW. -/
def waiting (ctrl enablew : Word) : State :=
  { chanAs on .spr1 ⟨0x100, 0, 1, 0, 0, 0, 0⟩ (engine .queued .normal 0) with
    queued := 0x200, g := { on.g with ctrl := ctrl, enablew := enablew, enabler := enablew } }

theorem test_witness_ReenableDrainsTheQueue :
    (waiting 0 0).g.ctrl.getLsbD 0 = false ∧ (1 : Word).getLsbD 0 = true
      ∧ (waiting 1 0x10000).g.enablew.getLsbD 16 = true ∧ (0xFFFEFFFF : Word).getLsbD 16 = false
      ∧ (waiting 0 0).isQueued .spr1 = true ∧ busy (waiting 0 0) .spr1 ∧ (waiting 0 0).g.enabler.getLsbD 16 = false
      ∧ ¬ unsupported (waiting 0 0).params .spr1 (((waiting 0 0).chan.get .spr1).chcr.extractLsb' 2 2) := by
  delta busy unsupported; decide

/-- A queued start of VIF0 and one of IPU0 in a mode it does not have. -/
theorem test_witness_ReenableDrainsTheQueue_others :
    let s := { chanAs (chanAs on .ipu0 ⟨0x108, 0, 1, 0, 0, 0, 0⟩ (engine .queued .normal 0)) .vif0 ⟨0x100, 0, 1, 0, 0, 0, 0⟩
      (engine .queued .normal 0) with queued := 0x009, g := { on.g with ctrl := 0 } }
    s.isQueued .ipu0 = true ∧ busy s .ipu0 ∧ unsupported s.params .ipu0 ((s.chan.get .ipu0).chcr.extractLsb' 2 2)
      ∧ s.isQueued .vif0 = true ∧ busy s .vif0
      ∧ ¬ unsupported s.params .vif0 ((s.chan.get .vif0).chcr.extractLsb' 2 2) := by
  delta busy unsupported; decide

theorem test_witness_GenericCellWrite : isGeneric 0x1000E070 = true ∧ isGeneric 0x1000EFFC = true := by decide

theorem test_witness_RefsStallsOrRefers :
    stalls .sif1 (tag 4 0x7FF0) (drain 0x8000) ∧ stalls .sif1 (tag 4 0x7FF0) (drain 0x802F)
      ∧ ¬ stalls .sif1 (tag 4 0x7FF0) (drain 0x8030) ∧ ¬ stalls .spr1 (tag 4 0x7FF0) (drain 0) := by
  delta stalls; decide

theorem test_witness_RefsStallsOrRefers_refetch :
    let s := chanAs on .sif1 ⟨0x104, 0, 0, 0x1000, 0, 0, 0⟩ (engine .stalled .srcChain 0)
    s.running ∧ runnable s.g ∧ (s.eng.get .sif1).phase = .stalled := by
  delta runnable; decide

theorem test_witness_CallPushes_RetPops :
    let asp := fun chcr => ((fetching chcr 0 0 0).chan.get .spr1).chcr.extractLsb' 4 2
    asp 0x104 = 0 ∧ asp 0x114 = 1 ∧ asp 0x124 = 2 ∧ asp 0x134 = 3 := by decide

theorem test_witness_TagTransfer :
    (∃ s', exec (.srcEnd .spr1 (tag 1 0)) (fetching 0x144 0x1000 0 0) = .next s'
        ∧ ((s'.chan.get .spr1).sadr == 0x10) = true)
      ∧ Instr.srcEnd .spr1 (tag 1 0) ∈ srcTags .spr1 (tag 1 0)
      ∧ ((fetching 0x144 0x1000 0 0).chan.get .spr1).chcr.getLsbD 6 = true
      ∧ (∃ s', exec (.srcEnd .sif1 (tag 1 0)) (chanAs on .sif1 ⟨0x144, 0, 0, 0, 0, 0, 0⟩ .reset) = .next s'
        ∧ ((s'.sif.get .sif1).fifo == [0, 0]) = true)
      ∧ Instr.srcEnd .sif1 (tag 1 0) ∈ srcTags .sif1 (tag 1 0)
      ∧ ¬ (Instr.srcEnd .sif1 (tag 1 0) = .srcRefs .sif1 (tag 1 0)
        ∧ stalls .sif1 (tag 1 0) (chanAs on .sif1 ⟨0x144, 0, 0, 0, 0, 0, 0⟩ .reset))
      ∧ 2 ≤ on.sifFree .sif1 ∧ ((drain 0).chan.get .sif1).chcr.getLsbD 6 = false :=
  ⟨exists_of_leads (by decide), by decide, by decide, exists_of_leads (by decide), by decide, by delta stalls; decide,
    by decide, by decide⟩

theorem test_witness_IopTags :
    4 ≤ (sifAs on .sif0 (List.replicate 28 0) ⟨true, false, 0, 0, 0⟩ 0 0).sifFree .sif0
      ∧ 4 ≤ (sifAs on .sif1 tagWords ⟨true, false, 0, 0, 0⟩ 0 0).sifSize .sif1 := by decide

/-- The last bytes of scratchpad are `va = 0x4000 .. 0x400F` in `mapped`. -/
theorem test_witness_LoadsReadMemory_StoresWriteMemory :
    initialised mapped ∧ Maps mapped 0x400F .spr 0x3FFF 1 ∧ Maps mapped 0x400E .spr 0x3FFE 2
      ∧ Maps mapped 0x400C .spr 0x3FFC 4 ∧ Maps mapped 0x4008 .spr 0x3FF8 8 ∧ Maps mapped 0x4000 .spr 0x3FF0 16 := by
  refine ⟨⟨rfl, rfl⟩, ⟨⟨_, rfl, rfl⟩, ?_⟩, ⟨⟨_, rfl, rfl⟩, ?_⟩, ⟨⟨_, rfl, rfl⟩, ?_⟩, ⟨⟨_, rfl, rfl⟩, ?_⟩,
    ⟨⟨_, rfl, rfl⟩, ?_⟩⟩ <;> decide

theorem test_witness_HandlerAccesses :
    mapped.vtlbEntry (page mapped 0x2410) = .handler .dmac 0x1000D000
      ∧ decodeMmio (0x1000D000 + BitVec.ofNat 32 (offset mapped 0x2410)) = .chan .spr1 .madr
      ∧ mapped.vtlbEntry (page mapped 0x2404) = .handler .dmac 0x1000D000
      ∧ decodeMmio (0x1000D000 + BitVec.ofNat 32 (offset mapped 0x2404)) = .generic 0x1000D404 := by decide

/-- The two handlers that are not the DMAC's: page 3's own, and the default one past the end of scratchpad. -/
theorem test_witness_HandlerAccesses_external :
    Calls mapped 0x3002 .w16 (.external 7) 0x1F000002 ∧ (0x3002 : Word).toNat % Width.w16.bytes = 0
      ∧ Calls mapped 0x4010 .w8 .default 0x4010 ∧ (0x4010 : Word).toNat % Width.w8.bytes = 0
      ∧ Calls mapped 0x4010 .w128 .default 0x4010 ∧ (0x4010 : Word).toNat % Width.w128.bytes = 0 :=
  ⟨.inl ⟨nofun, 0x1F000000, by decide, by decide⟩, by decide, .inr ⟨rfl, rfl, .spr, 0x3FF0, by decide, by decide⟩,
    by decide, .inr ⟨rfl, rfl, .spr, 0x3FF0, by decide, by decide⟩, by decide⟩

theorem test_witness_HandlerAccesses_others :
    let s := (mapped.mmuMap 5 (.handler .dmac 0x1000E000)).mmuMap 6 (.handler .dmac 0x1000F000)
    initialised s ∧ s.vtlbEntry (page s 0x5010) = .handler .dmac 0x1000E000
      ∧ decodeMmio (0x1000E000 + BitVec.ofNat 32 (offset s 0x5010)) = .global .stat
      ∧ s.vtlbEntry (page s 0x6000) = .handler .dmac 0x1000F000
      ∧ decodeMmio (0x1000F000 + BitVec.ofNat 32 (offset s 0x6000)) = .outside := by
  delta initialised; decide

theorem test_witness_RefusedAccesses :
    (0x1001 : Word).toNat % Width.w16.bytes ≠ 0 ∧ (0x100F : Word).toNat % Width.w128.bytes ≠ 0 ∧ on.vtlb.init = false
      ∧ isGeneric 0x1000D400 = false ∧ isGeneric 0x1000F000 = false ∧ decodeMmio 0x1000D401 = .unaligned
      ∧ decodeMmio 0x1000F000 = .outside ∧ on.running
      ∧ (refusing on .truncated).faults = [] ∧ (refusing on .truncated).refused = some .truncated := by decide

theorem test_witness_DispatchersEqualTheInterpretedLookup :
    initialised mapped ∧ selector true .w128 false ∈ validSelectors ∧ selector false .w8 true ∈ validSelectors := by
  delta initialised; decide

theorem test_witness_VtlbInitIsIdempotent :
    on.running ∧ on.vtlb.init = false ∧ mapped.running ∧ mapped.vtlb.init = true := by decide

theorem test_witness_CompletionEvent :
    ending.running ∧ Ch.inScope .spr1 = true ∧ runnable ending.g ∧ ending.ev.get .spr1 = some 1
      ∧ (ending.eng.get .spr1).phase = .completing := by
  delta runnable; decide

theorem test_witness_BusErrorHaltsTheChannel :
    let s := fetching 0x104 0x1F000000 0 0
    let r := chanAs on .sif1 ⟨0x144, 0, 0, 0x1F000000, 0, 0, 0⟩ (engine .tagFetch .srcChain 0)
    s.running ∧ runnable s.g ∧ Ch.inScope .spr1 = true ∧ (s.eng.get .spr1).phase = .tagFetch
      ∧ (s.eng.get .spr1).mode = .srcChain ∧ s.dmaAddr (s.chan.get .spr1).tadr false = none
      ∧ r.running ∧ runnable r.g ∧ (r.eng.get .sif1).phase = .tagFetch ∧ (r.eng.get .sif1).mode = .srcChain
      ∧ (r.chan.get .sif1).chcr.getLsbD 6 = true ∧ 2 ≤ r.sifFree .sif1
      ∧ r.dmaAddr (r.chan.get .sif1).tadr false = none := by
  delta runnable; decide

/-- IPU0 whose second quadword would go past the end of RAM, to where a read-only region begins. -/
def reachingRom : State :=
  chanAs { on with
    ipu := ⟨[], [5, 6], false⟩, mem := { on.mem with extra := [⟨0x02000000, 16, false, []⟩] } } .ipu0
    ⟨0x100, 0x01FFFFF0, 2, 0, 0, 0, 0⟩ (engine .transfer .normal 2)

theorem test_witness_BusErrorHaltsTheChannel_transfer :
    let s1 := (reachingRom.moveN .ipu0 1).1
    let r := chanAs on .spr1 ⟨0x100, 0x1F000000, 2, 0, 0, 0, 0⟩ (engine .transfer .normal 2)
    reachingRom.running ∧ runnable reachingRom.g ∧ (reachingRom.eng.get .ipu0).phase = .transfer
      ∧ 0 < (reachingRom.eng.get .ipu0).rem ∧ 2 ≤ reachingRom.bound .ipu0 ∧ (reachingRom.moveN .ipu0 1).2 = true
      ∧ s1.dmaAddr (s1.memAddr .ipu0) (writesMemory s1 .ipu0) = none
      ∧ s1.dmaAddr (s1.memAddr .ipu0) false = some ⟨.extra 0, 0⟩
      ∧ 1 ≤ r.bound .spr1 ∧ r.moveN .spr1 0 = (r, true) ∧ r.dmaAddr (r.memAddr .spr1) (writesMemory r .spr1) = none := by
  delta runnable; decide

theorem test_witness_MovesIntoMemory :
    let s := sifAs (sifAs { on with ipu := ⟨[], [5], false⟩ } .sif0 tagWords ⟨false, false, 0, 0, 0⟩ 0 0) .sif2
      tagWords ⟨false, false, 0, 0, 0⟩ 0 0
    s.dmaAddr (s.memAddr .ipu0) true = some ⟨.ram, 0⟩ ∧ s.ipu.outFifo = 5 :: []
      ∧ s.dmaAddr (s.memAddr .sif0) true = some ⟨.ram, 0⟩
      ∧ (s.sif.get .sif0).fifo = 0x10000002 :: 0x5000 :: 8 :: 9 :: []
      ∧ (s.sif.get .sif2).fifo = 0x10000002 :: 0x5000 :: 8 :: 9 :: []
      ∧ (s.chan.get .sif2).chcr.getLsbD 0 = false
      ∧ s.dmaAddr (s.memAddr .spr0) true = some ⟨.ram, 0⟩ ∧ s.g.ctrl.getLsbD 3 = false := by decide

theorem test_witness_MovesIntoMemory_mfifo :
    let s := chanAs { on with g := { on.g with ctrl := 9, rbor := 0x00100000, rbsr := 0xFF0 } } .spr0
      ⟨0x100, 0x00100FF0, 2, 0, 0, 0, 0⟩ (engine .transfer .normal 2)
    s.dmaAddr (s.memAddr .spr0) true = some ⟨.ram, 0x00100FF0⟩ ∧ s.g.ctrl.getLsbD 3 = true := by decide

theorem test_witness_MovesFromMemory :
    BytesAt on .ram 0 16 0 ∧ on.dmaAddr (on.memAddr .ipu1) false = some ⟨.ram, 0⟩ ∧ 0 < on.ipuInFree
      ∧ on.dmaAddr (on.memAddr .sif1) false = some ⟨.ram, 0⟩ ∧ 4 ≤ on.sifFree .sif1
      ∧ ((chanAs on .sif2 ⟨0x101, 0, 0, 0, 0, 0, 0⟩ .reset).chan.get .sif2).chcr.getLsbD 0 = true
      ∧ on.dmaAddr (on.memAddr .spr1) false = some ⟨.ram, 0⟩ := by
  delta BytesAt; decide

/-- SPR0 with MFIFO, in a ring of 16 quadwords. -/
def ringing (m : Mode) (sqwc : Word) : State :=
  chanAs { on with g := { on.g with ctrl := 9, rbor := 0x00100000, rbsr := 0x000000F0, sqwc := sqwc } } .spr0
    ⟨0x100, 0x001000F0, 3, 0, 0, 0, 0⟩ (engine .transfer m 3)

theorem test_witness_MadrAndQwcAdvanceTogether :
    (moving.eng.get .spr1).mode ≠ .interleave ∧ moving.g.ctrl.getLsbD 3 = false ∧ (moving.moveN .spr1 2).2 = true
      ∧ ((ringing .normal 0).eng.get .spr0).mode ≠ .interleave ∧ (ringing .normal 0).g.ctrl.getLsbD 3 = true
      ∧ ((ringing .normal 0).moveN .spr0 3).2 = true ∧ madrAfter (ringing .normal 0) .spr0 1 = 0x00100000 := by
  decide

theorem test_witness_MadrAndQwcAdvanceTogether_moves :
    (moving.moveOne .spr1).isSome = true
      ∧ (chanAs on .spr1 ⟨0x100, 0x1F000000, 2, 0, 0, 0, 0⟩ (engine .transfer .normal 2)).moveOne .spr1 = none := by decide

/-- SPR1 at the start of an interleave run of four quadwords. -/
def interleaving (sqwc : Word) : State :=
  chanAs { on with g := { on.g with sqwc := sqwc } } .spr1 ⟨0x108, 0x1000, 4, 0, 0, 0, 0⟩
    (engine .transfer .interleave 4)

/-- SPR1 with one quadword of a block moved, three to go and SQWC as it stands now. -/
def midBlock (sqwc : Word) : State :=
  chanAs { on with g := { on.g with sqwc := sqwc } } .spr1 ⟨0x108, 0x1010, 3, 0, 0, 0, 0⟩
    { engine .transfer .interleave 3 with blk := 1 }

/-- A block of two, one block of the whole run (TQWC 0), a partial block (TQWC 5 of 4 left), and one in the MFIFO ring; and
with one quadword of a block moved: one more of two, the last value below TQWC, and the whole rest (TQWC 0, and TQWC 4). -/
theorem test_witness_InterleaveBlockSkips :
    ((interleaving 0x00020001).eng.get .spr1).blk = 0 ∧ ((interleaving 0x00020001).g.sqwc.extractLsb' 16 8).toNat = 2
      ∧ ((interleaving 0x00020001).moveN .spr1 2).2 = true
      ∧ ((interleaving 1).g.sqwc.extractLsb' 16 8).toNat = 0 ∧ ((interleaving 1).eng.get .spr1).rem = 4
      ∧ ((interleaving 1).moveN .spr1 4).2 = true
      ∧ ((interleaving 0x00050001).g.sqwc.extractLsb' 16 8).toNat = 5 ∧ ((interleaving 0x00050001).moveN .spr1 4).2 = true
      ∧ ((ringing .interleave 0x00020001).eng.get .spr0).blk = 0
      ∧ ((ringing .interleave 0x00020001).moveN .spr0 2).2 = true
      ∧ ((midBlock 0x00020001).eng.get .spr1).blk = 1 ∧ ((midBlock 0x00020001).moveN .spr1 1).2 = true
      ∧ ((midBlock 5).moveN .spr1 3).2 = true ∧ ((midBlock 0x00040005).moveN .spr1 3).2 = true := by decide

/-- R331's example, with the skip count set to 5 within the first block: the boundary that ends it skips by 5 (R714). -/
theorem test_interleave_new_skip_at_boundary :
    (((midBlock 0x00020005).moveN .spr1 1).1.chan.get .spr1).madr = 0x1070 := by decide

/-- IPU0 with two quadwords to go, as the stall source of CTRL.STS = 3 or not. -/
def sourcing (ctrl : Word) : State :=
  chanAs { on with g := { on.g with ctrl := ctrl }, ipu := ⟨[], [5, 6], false⟩ } .ipu0 ⟨0x100, 0x2000, 2, 0, 0, 0, 0⟩
    (engine .transfer .normal 2)

theorem test_witness_StallSourceUpdatesStadr :
    (sourcing 0x31).running ∧ runnable (sourcing 0x31).g ∧ ((sourcing 0x31).eng.get .ipu0).phase = .transfer
      ∧ 0 < ((sourcing 0x31).eng.get .ipu0).rem ∧ 2 ≤ (sourcing 0x31).bound .ipu0
      ∧ ((sourcing 0x31).moveN .ipu0 1).2 = true ∧ ((sourcing 0x31).moveN .ipu0 2).2 = true ∧ stallSource (sourcing 0x31) .ipu0
      ∧ ¬ stallSource (sourcing 0x11) .ipu0 := by
  delta runnable stallSource; decide

theorem test_witness_EnginesParkWakeAndHold :
    let s := { sourcing 1 with ipu := ⟨[], [], false⟩ }
    let r := chanAs { on with ipu := ⟨[], [], true⟩ } .ipu1 ⟨0x100, 0x2000, 2, 0, 0, 0, 0⟩ (engine .parked .normal 2)
    s.running ∧ runnable s.g ∧ (s.eng.get .ipu0).mode ≠ .interleave ∧ (s.eng.get .ipu0).phase = .transfer
      ∧ 0 < (s.eng.get .ipu0).rem ∧ ¬ s.ipu.outFifo ≠ []
      ∧ r.running ∧ runnable r.g ∧ (r.eng.get .ipu1).mode ≠ .interleave ∧ (r.eng.get .ipu1).phase = .parked
      ∧ r.ipu.dataRequested = true ∧ 0 < r.ipuInFree := by
  delta runnable; decide

/-- `on` with FIFOs of eight words. -/
def small : State := { on with params := { Params.default with sifFifoWords := 8 } }

/-- A SIF channel with an EE half in `e` and CHCR `chcr`, and `n` words in its FIFO of eight. -/
def waitingOn (f : Sif) (chcr : Word) (e : Engine) (n : Nat) : State :=
  sifAs (chanAs small f.toCh ⟨chcr, 0, 2, 0x1000, 0, 0, 0⟩ e) f (List.replicate n 0) ⟨false, false, 0, 0, 0⟩ 0 0

/-- One word too few to write memory (SIF0, SIF2 with DIR = 0), room for one word too few to read it (SIF1, SIF2 with
DIR = 1). -/
theorem test_witness_EnginesParkWakeAndHold_transfer :
    let e := engine .transfer .normal 2
    (waitingOn .sif0 0x100 e 3).running ∧ runnable (waitingOn .sif0 0x100 e 3).g
      ∧ ((waitingOn .sif0 0x100 e 3).eng.get .sif0).phase = .transfer ∧ 0 < ((waitingOn .sif0 0x100 e 3).eng.get .sif0).rem
      ∧ ¬ canMove (waitingOn .sif0 0x100 e 3) .sif0 ∧ ¬ canMove (waitingOn .sif1 0x101 e 5) .sif1
      ∧ ¬ canMove (waitingOn .sif2 0x100 e 3) .sif2 ∧ ¬ canMove (waitingOn .sif2 0x101 e 5) .sif2
      ∧ canMove (waitingOn .sif2 0x100 e 4) .sif2 ∧ canMove (waitingOn .sif2 0x101 e 4) .sif2 := by
  delta canMove runnable; decide

theorem test_witness_EnginesParkWakeAndHold_tag :
    let s := waitingOn .sif0 0x104 (engine .tagFetch .dstChain 0) 3
    let r := waitingOn .sif1 0x145 (engine .tagFetch .srcChain 0) 7
    s.running ∧ runnable s.g ∧ (s.eng.get .sif0).phase = .tagFetch ∧ (s.eng.get .sif0).mode = .dstChain
      ∧ (s.sif.get .sif0).fifo.length < 4
      ∧ r.running ∧ runnable r.g ∧ (r.eng.get .sif1).phase = .tagFetch ∧ (r.eng.get .sif1).mode = .srcChain
      ∧ (r.chan.get .sif1).chcr.getLsbD 6 = true ∧ r.sifFree .sif1 < 2 := by
  delta runnable; decide

theorem test_witness_EndOfUnit :
    let s := chanAs on .spr1 ⟨0x104, 0, 0, 0x1000, 0, 0, 0⟩ (engine .transfer .srcChain 0)
    let r := chanAs on .sif2 ⟨0x100, 0, 0, 0, 0, 0, 0⟩ (engine .transfer .normal 0)
    s.running ∧ runnable s.g ∧ (s.eng.get .spr1).phase = .transfer ∧ (s.eng.get .spr1).rem = 0
      ∧ (s.eng.get .spr1).mode = .srcChain ∧ (s.eng.get .spr1).last = false
      ∧ r.running ∧ runnable r.g ∧ (r.eng.get .sif2).phase = .transfer ∧ (r.eng.get .sif2).rem = 0
      ∧ (r.eng.get .sif2).mode = .normal := by
  delta runnable; decide

/-- A step that leaves one quadword, and one that moves the last. -/
theorem test_witness_EndOfUnit_moves :
    moving.running ∧ runnable moving.g ∧ (moving.eng.get .spr1).phase = .transfer ∧ 0 < (moving.eng.get .spr1).rem
      ∧ 2 ≤ moving.bound .spr1 ∧ (moving.moveN .spr1 1).2 = true ∧ ((moving.moveN .spr1 1).1.eng.get .spr1).rem = 1
      ∧ (moving.moveN .spr1 2).2 = true ∧ ((moving.moveN .spr1 2).1.eng.get .spr1).rem = 0 := by
  delta runnable; decide

/-- One quadword of two in Normal mode, and of a block of an interleave run. -/
theorem test_witness_EndOfUnit_quadword :
    canMove moving .spr1 ∧ (moving.moveOne .spr1).isSome = true
      ∧ canMove (interleaving 0x00020001) .spr1 ∧ 0 < ((interleaving 0x00020001).eng.get .spr1).rem
      ∧ ((interleaving 0x00020001).eng.get .spr1).blk < ((interleaving 0x00020001).g.sqwc.extractLsb' 16 8).toNat
      ∧ (interleaving 1).g.sqwc.extractLsb' 16 8 = 0 ∧ ((interleaving 1).moveOne .spr1).isSome = true
      ∧ (sourcing 1).ipu.outFifo ≠ [] ∧ ((sourcing 1).moveOne .ipu0).isSome = true :=
  ⟨trivial, by decide, trivial, by decide, by decide, by decide, by decide, by decide, by decide⟩

/-- SPR1's completion has fired: nothing is enabled. -/
def ended : State := ending.fireEvent .spr1

theorem test_ended_disabled (x : Action) (h : leads (ended.act x) (fun t => t == ended) = true) : ¬ ended.enabled x := by
  obtain ⟨t, ht, he⟩ := exists_of_leads h
  exact fun hx => hx (ht.trans (congrArg _ (eq_of_beq he)))

theorem test_ended_enables_nothing :
    (∀ c, ¬ ended.enabled (.engine c 1) ∧ ¬ ended.enabled (.fire c))
      ∧ ∀ f, ¬ ended.enabled (.iopHalf f 1) ∧ ¬ ended.enabled (.fireIop f) :=
  ⟨fun c => ⟨test_ended_disabled _ (by cases c <;> decide), test_ended_disabled _ (by cases c <;> decide)⟩,
    fun f => ⟨test_ended_disabled _ (by cases f <;> decide), test_ended_disabled _ (by cases f <;> decide)⟩⟩

/-- The run that fires SPR1's completion over and over: after the first time nothing changes. -/
def firing : Nat → State
  | 0 => ending
  | _ + 1 => ended

theorem test_witness_FairRunsFirePendingEvents_fair : FairRun (fun _ => .fire .spr1) firing := by
  have h (x : Action) (taken : Action → Prop) (hx : ¬ ended.enabled x) :
      WeaklyFair (fun _ => .fire .spr1) firing x taken :=
    fun n hn => absurd (hn (n + 1) (Nat.le_succ n)) hx
  refine ⟨fun n => ?_, fun c => h _ _ (test_ended_enables_nothing.1 c).1,
    fun f => h _ _ (test_ended_enables_nothing.2 f).1, fun c => h _ _ (test_ended_enables_nothing.1 c).2,
    fun f => h _ _ (test_ended_enables_nothing.2 f).2⟩
  cases n with
  | zero => exact ⟨rfl, rfl⟩
  | succ n =>
    have hl : leads (ended.act (.fire .spr1)) (fun t => t == ended) = true := by decide
    obtain ⟨t, ht, he⟩ := exists_of_leads hl
    exact ⟨rfl, ht.trans (congrArg _ (eq_of_beq he))⟩

theorem test_witness_FairRunsFirePendingEvents_pending :
    (firing 0).ev.get .spr1 ≠ none ∧ ∀ n, runnable (firing n).g := by
  refine ⟨by decide, fun n => ?_⟩
  cases n with
  | zero => delta runnable; decide
  | succ n => show runnable ended.g; delta runnable; decide

theorem test_witness_FairRunsFirePendingEvents_invariant (n : Nat) : (firing n).runInv := by
  cases n with
  | zero =>
    show (firing 0).runInv
    exact fun _ => ⟨fun c => by cases c <;> decide, fun c => by cases c <;> decide, fun c => by cases c <;> decide,
      fun c => by cases c <;> exact ⟨by first | exact trivial | exact (rfl : Ch.inScope .spr1 = true), trivial,
        by delta readsTags; decide⟩,
      fun c => by cases c <;> decide, fun c => by cases c <;> decide⟩
  | succ n =>
    show ended.runInv
    exact fun _ => ⟨fun c => by cases c <;> decide, fun c => by cases c <;> decide, fun c => by cases c <;> decide,
      fun c => by cases c <;> exact ⟨trivial, trivial, by delta readsTags; decide⟩,
      fun c => by cases c <;> decide, fun c => by cases c <;> decide⟩

theorem test_witness_IopHalfSteps :
    let s := fun f fifo counter junk => sifAs on f fifo ⟨true, true, counter, junk, 0⟩ 0 0
    (s .sif0 [] 1 3).running ∧ 0 < (s .sif0 [] 1 3).sifFree .sif0 ∧ ((s .sif0 [] 1 3).sif.get .sif0).iop.counter = 1
      ∧ ((s .sif1 tagWords 1 3).sif.get .sif1).fifo = 0x10000002 :: [0x5000, 8, 9]
      ∧ ((s .sif0 (List.replicate 29 0) 0 3).sif.get .sif0).iop.writeJunk
        ≤ (s .sif0 (List.replicate 29 0) 0 3).sifFree .sif0
      ∧ ((s .sif1 tagWords 0 3).sif.get .sif1).iop.writeJunk ≤ (s .sif1 tagWords 0 3).sifSize .sif1
      ∧ ((s .sif2 [] 0 0).sif.get .sif2).iop = ⟨true, true, 0, 0, 0⟩
      ∧ ((s .sif2 [] 0 0).chan.get .sif2).chcr.getLsbD 0 = false
      ∧ (on.sif.get .sif2).iop.busy = false ∧ (on.sif.get .sif2).iopEv = none
      ∧ (((s .sif0 [] 0 0).endIOP .sif0).sif.get .sif0).iopEv = some 1 := by decide

/-- What holds an IOP half: no room or no word for data, too little of either for the pad, and for a tag. -/
theorem test_witness_IopHalfSteps_hold :
    let s := fun f n counter junk => sifAs small f (List.replicate n 0) ⟨true, false, counter, junk, 0⟩ 0 0
    (s .sif0 8 1 3).sifFree .sif0 = 0 ∧ ((s .sif1 0 1 3).sif.get .sif1).fifo = []
      ∧ (s .sif0 6 0 3).sifFree .sif0 < 3 ∧ ((s .sif1 2 0 3).sif.get .sif1).fifo.length < 3
      ∧ (s .sif0 5 0 0).sifFree .sif0 < 4 ∧ ((s .sif1 3 0 0).sif.get .sif1).fifo.length < 4
      ∧ ((s .sif2 0 0 0).sif.get .sif2).iop = ⟨true, false, 0, 0, 0⟩ ∧ (s .sif2 0 0 0).running := by decide

end Sys2Proof.Tests
end

section
/-!
PROOFS. O6: what each of the moves that read an instruction hands to `exec`, one lemma per move under its guard, and the
step that follows.
-/

namespace Sys2Proof.Machine
open Sys2Proof.Claims

/-! ### A step and the move it makes -/

/-- A running machine's step makes the move of the action at the head of its agenda (20_memory.md R120). -/
theorem step_withAgenda_cons {s : State} (hs : s.running) (a : Action) (rest : List Action) :
    step (withAgenda s (a :: rest)) = ((withAgenda s rest).move a).result :=
  step_agenda hs.1 hs.2 rfl

/-- Bytes that decode are run on the state the move hands over. -/
theorem readInstr_of_decode {p : Port} {bs : List Byte} {i : Instr} (h : decode p bs = .ok i) (s : State) :
    readInstr p bs s = .run i s := by
  unfold readInstr
  rw [h]

/-! ### The tag reads of the EE engines -/

/-- A runnable engine in phase TagFetch reads a tag (41_tag_walker.md R261, R298). -/
theorem State.engineMove_of_tagFetch (s : State) {c : Ch} (hr : runnable s.g) (hp : (s.eng.get c).phase = .tagFetch)
    (n : Nat) : s.engineMove c n = s.tagFetchPhase c := by
  unfold State.engineMove
  rw [if_pos (s.dmacRunnable_iff.mpr hr), hp]

/-- A source chain fetches the tag at TADR; SIF1 with TTE needs room for two words first (43_fifo_sif.md R430). -/
theorem State.tagFetchPhase_of_srcChain {s : State} {c : SrcCh} (hm : (s.eng.get c.toCh).mode = .srcChain)
    (hroom : c = .sif1 → chcrTte (s.chan.get .sif1).chcr = true → 2 ≤ s.sifFree .sif1) :
    s.tagFetchPhase c.toCh = s.srcTagFetch c := by
  unfold State.tagFetchPhase
  cases c with
  | ipu1 => simp only [SrcCh.toCh] at hm ⊢; rw [hm]
  | spr1 => simp only [SrcCh.toCh] at hm ⊢; rw [hm]
  | sif1 =>
    simp only [SrcCh.toCh] at hm ⊢
    rw [hm]
    exact if_neg fun h => Nat.not_lt.mpr (hroom rfl h.1) h.2

/-- A destination chain of SIF0 reads its tag off the FIFO (43_fifo_sif.md R420). -/
theorem State.tagFetchPhase_sif0 {s : State} (hm : (s.eng.get .sif0).mode = .dstChain) :
    s.tagFetchPhase .sif0 = s.sif0TagRead := by
  unfold State.tagFetchPhase
  rw [hm]

/-- A destination chain of SPR0 reads its tag at SADR (42_channel_engines.md R360). -/
theorem State.tagFetchPhase_spr0 {s : State} (hm : (s.eng.get .spr0).mode = .dstChain) :
    s.tagFetchPhase .spr0 = s.spr0TagRead := by
  unfold State.tagFetchPhase
  rw [hm]

/-- The source tag is the quadword that TADR resolves to (41_tag_walker.md R261). -/
theorem State.srcTagFetch_of_dmaAddr {s : State} {c : SrcCh} {l : Loc}
    (hl : s.dmaAddr (s.chan.get c.toCh).tadr false = some l) :
    s.srcTagFetch c = readInstr (.srcTag c) ((s.mem.get l.region).readBytes l.off 16) s := by
  unfold State.srcTagFetch
  rw [hl]

/-- A quadword taken off a SIF FIFO is its four oldest words, and they are gone (20_memory.md R111). -/
theorem State.takeSif_of_fifo {s : State} {f : Sif} {w0 w1 w2 w3 : Word} {ws : List Word}
    (hf : (s.sif.get f).fifo = w0 :: w1 :: w2 :: w3 :: ws) :
    State.takeSif f s =
      (quadOf w0 w1 w2 w3, { s with sif := s.sif.set f { s.sif.get f with fifo := ws } }) := by
  have hsize : ¬ 4 > s.sifSize f := by simp [State.sifSize, hf]
  simp only [State.takeSif, State.sifPop, if_neg hsize, State.updSif, hf]
  rfl

/-- SIF0's destination tag is the quadword taken off its FIFO (43_fifo_sif.md R420). -/
theorem State.sif0TagRead_of_fifo {s : State} {w0 w1 w2 w3 : Word} {ws : List Word}
    (hf : (s.sif.get .sif0).fifo = w0 :: w1 :: w2 :: w3 :: ws) :
    s.sif0TagRead = readInstr (.dstTag .sif0) (leBytes 16 (quadOf w0 w1 w2 w3))
      { s with sif := s.sif.set .sif0 { s.sif.get .sif0 with fifo := ws } } := by
  have hsize : ¬ s.sifSize .sif0 < 4 := by simp [State.sifSize, hf]
  simp only [State.sif0TagRead, if_neg hsize, State.takeSif_of_fifo hf]

/-! ### The tag reads of the IOP halves -/

/-- A busy IOP half that owes no word and has not read its last tag reads a tag (43_fifo_sif.md R427, R434). -/
theorem State.iopMove_of_noWords (s : State) {f : Sif} (hb : (s.sif.get f).iop.busy = true)
    (hc : (s.sif.get f).iop.counter = 0) (hj : (s.sif.get f).iop.writeJunk = 0) (hl : (s.sif.get f).iop.last = false)
    (n : Nat) : s.iopMove f n = s.iopTagMove f := by
  simp [State.iopMove, hb, hc, hj, hl]

/-- SIF0's IOP tag is the four words of IOP RAM at IopTadr (43_fifo_sif.md R427). -/
theorem State.iopTagMove_sif0 {s : State} (hf : 4 ≤ s.sifFree .sif0) :
    s.iopTagMove .sif0 = readInstr .iopTagSif0 (leBytes 16 (quadOf (s.iopRead (s.sif.get .sif0).iopTadr)
      (s.iopRead ((s.sif.get .sif0).iopTadr + 4)) (s.iopRead ((s.sif.get .sif0).iopTadr + 8))
      (s.iopRead ((s.sif.get .sif0).iopTadr + 12)))) s := by
  simp only [State.iopTagMove, if_neg (Nat.not_lt.mpr hf), State.iopReadN, BitVec.add_assoc]
  rfl

/-- SIF1's IOP tag is the four oldest words of its FIFO, which the tag itself takes off (43_fifo_sif.md R434). -/
theorem State.iopTagMove_sif1 {s : State} {w0 w1 w2 w3 : Word} {ws : List Word}
    (hf : (s.sif.get .sif1).fifo = w0 :: w1 :: w2 :: w3 :: ws) :
    s.iopTagMove .sif1 = readInstr .iopTagSif1 (leBytes 16 (quadOf w0 w1 w2 w3)) s := by
  have hsize : ¬ s.sifSize .sif1 < 4 := by simp [State.sifSize, hf]
  simp only [State.iopTagMove, if_neg hsize, hf]
  rfl

/-! ### The obligation -/

/-- Settles O6: under its guard each of the eight reads is `readInstr` of the bytes named, which runs what they decode to. -/
theorem stepRunsDecodedInstruction : Obligations.StepRunsDecodedInstruction := by
  unfold Obligations.StepRunsDecodedInstruction
  intro s rest i hs
  have hrun (a : Action) (t : State) (h : (withAgenda s rest).move a = .run i t) :
      step (withAgenda s (a :: rest)) = exec i t := by
    rw [step_withAgenda_cons hs, h]
    rfl
  refine ⟨?hostWrite, ?hostRead, ?dispatch, ?srcTag, ?dstTagSif0, ?dstTagSpr0, ?iopTagSif0, ?iopTagSif1⟩
  case hostWrite => exact fun _ _ hd => hrun _ _ (readInstr_of_decode hd _)
  case hostRead => exact fun _ hd => hrun _ _ (readInstr_of_decode hd _)
  case dispatch => exact fun _ _ _ hd => hrun _ _ (readInstr_of_decode hd _)
  case srcTag =>
    intro c n l hr hp hm hroom hl hd
    refine hrun _ _ ?_
    calc (withAgenda s rest).engineMove c.toCh n
      _ = (withAgenda s rest).tagFetchPhase c.toCh := (withAgenda s rest).engineMove_of_tagFetch hr hp n
      _ = (withAgenda s rest).srcTagFetch c := State.tagFetchPhase_of_srcChain hm hroom
      _ = readInstr _ _ _ := State.srcTagFetch_of_dmaAddr hl
      _ = .run i _ := readInstr_of_decode hd _
  case dstTagSif0 =>
    intro n w0 w1 w2 w3 ws hr hp hm hf hd
    refine hrun _ _ ?_
    calc (withAgenda s rest).engineMove .sif0 n
      _ = (withAgenda s rest).tagFetchPhase .sif0 := (withAgenda s rest).engineMove_of_tagFetch hr hp n
      _ = (withAgenda s rest).sif0TagRead := State.tagFetchPhase_sif0 hm
      _ = readInstr _ _ _ := State.sif0TagRead_of_fifo hf
      _ = .run i _ := readInstr_of_decode hd _
  case dstTagSpr0 =>
    intro n hr hp hm hd
    refine hrun _ _ ?_
    calc (withAgenda s rest).engineMove .spr0 n
      _ = (withAgenda s rest).tagFetchPhase .spr0 := (withAgenda s rest).engineMove_of_tagFetch hr hp n
      _ = (withAgenda s rest).spr0TagRead := State.tagFetchPhase_spr0 hm
      _ = .run i _ := readInstr_of_decode hd _
  case iopTagSif0 =>
    intro n hb hc hj hl hf hd
    refine hrun _ _ ?_
    calc (withAgenda s rest).iopMove .sif0 n
      _ = (withAgenda s rest).iopTagMove .sif0 := (withAgenda s rest).iopMove_of_noWords hb hc hj hl n
      _ = readInstr _ _ _ := State.iopTagMove_sif0 hf
      _ = .run i _ := readInstr_of_decode hd _
  case iopTagSif1 =>
    intro n w0 w1 w2 w3 ws hb hc hj hl hf hd
    refine hrun _ _ ?_
    calc (withAgenda s rest).iopMove .sif1 n
      _ = (withAgenda s rest).iopTagMove .sif1 := (withAgenda s rest).iopMove_of_noWords hb hc hj hl n
      _ = readInstr _ _ _ := State.iopTagMove_sif1 hf
      _ = .run i _ := readInstr_of_decode hd _

end Sys2Proof.Machine
end

section
/-!
PROOFS. O59: an event that is pending from some point on is fired by a fair run, and its firing empties the slot.
-/

namespace Sys2Proof.Machine
open Sys2Proof.Claims

/-! ### What firing an event leaves -/

/-- A completion leaves its channel's event slot empty (60_exceptions.md R606). -/
theorem State.complete_ev_self (s : State) (c : Ch) : (s.complete c).ev.get c = none := by
  simp [State.complete, State.hwDmacIrq]

/-- The event of a completing channel in scope fires, if the DMAC is runnable (60_exceptions.md R606). -/
theorem State.fireEvent_ev_of_completing {s : State} {c : Ch} (hc : c.inScope = true) (hr : runnable s.g)
    (hp : (s.eng.get c).phase = .completing) : (s.fireEvent c).ev.get c = none := by
  unfold State.fireEvent
  split
  · next he => exact he
  · rw [if_pos hc, if_pos ⟨hp, s.dmacRunnable_iff.mpr hr⟩]
    exact s.complete_ev_self c

/-- The event of a channel 0..2 fires in any phase: it completes an External channel and of any other empties the slot
(log 15). -/
theorem State.fireEvent_ev_of_outOfScope {s : State} {c : Ch} (hc : c.inScope = false) :
    (s.fireEvent c).ev.get c = none := by
  unfold State.fireEvent
  split
  · next he => exact he
  · rw [hc, if_neg Bool.false_ne_true]
    split
    · exact s.complete_ev_self c
    · simp

/-- The event of an IOP half fires (60_exceptions.md R612). -/
theorem State.fireIopEvent_iopEv (s : State) (f : Sif) : ((s.fireIopEvent f).sif.get f).iopEv = none := by
  unfold State.fireIopEvent
  split
  · next he => exact he
  · simp [State.setOut]

/-! ### Runs -/

/-- Every state of a run goes on. -/
theorem IsRun.running {a : Nat → Action} {s : Nat → State} (h : IsRun a s) (n : Nat) : (s n).running := by
  obtain ⟨hf, hr, -⟩ := step_form (h n).2
  exact ⟨hf, hr⟩

/-- Between the steps of a run the agenda is empty. -/
theorem IsRun.withAgenda_nil {a : Nat → Action} {s : Nat → State} (h : IsRun a s) (n : Nat) :
    withAgenda (s n) [] = s n := by
  unfold withAgenda
  rw [← (h n).1]

/-- In a run an action's step is its move: the agenda is empty but for the action. -/
theorem IsRun.act_eq {a : Nat → Action} {s : Nat → State} (h : IsRun a s) (n : Nat) (x : Action) :
    (s n).act x = ((s n).move x).result :=
  calc (s n).act x = ((withAgenda (s n) []).move x).result := step_withAgenda_cons (h.running n) x []
    _ = ((s n).move x).result := by rw [h.withAgenda_nil]

/-- In a fair run a condition that action `x` brings about wherever it does not hold yet holds at some later point: until
then `x` is enabled, so it is taken. -/
theorem WeaklyFair.eventually {a : Nat → Action} {s : Nat → State} {x : Action} (hrun : IsRun a s)
    (hfair : WeaklyFair a s x fun y => y = x) {done : State → Prop} {n : Nat}
    (hdone : ∀ m, n ≤ m → ∀ t, (s m).act x = .next t → ¬ done (s m) → done t) : ∃ m, n ≤ m ∧ done (s m) := by
  by_contra hnever
  have hnot (m : Nat) (hm : n ≤ m) : ¬ done (s m) := fun hd => hnever ⟨m, hm, hd⟩
  have henabled (m : Nat) (hm : n ≤ m) : (s m).enabled x := fun hheld =>
    hnot m hm (hrun.withAgenda_nil m ▸ hdone m hm _ hheld (hnot m hm))
  obtain ⟨m, hm, rfl⟩ := hfair n henabled
  exact hnot (m + 1) (by omega) (hdone m hm _ (hrun m).2 (hnot m hm))

/-- In a fair run a slot that `fire` empties wherever it is not empty, by the move of action `x`, is empty at some later
point. -/
theorem WeaklyFair.eventually_empty {a : Nat → Action} {s : Nat → State} {x : Action} (hrun : IsRun a s)
    (hfair : WeaklyFair a s x fun y => y = x) {fire : State → State}
    (hmove : ∀ t : State, t.move x = .done (.next (fire t)))
    {slot : State → Option Nat} {n : Nat} (hfire : ∀ m, n ≤ m → slot (s m) ≠ none → slot (fire (s m)) = none) :
    ∃ m, n ≤ m ∧ slot (s m) = none := by
  refine hfair.eventually hrun (done := fun t => slot t = none) fun m hm t ht hpending => ?_
  have hmoved : Host.Outcome.next (fire (s m)) = (Host.Outcome.next t : Result) := by
    rw [← ht, hrun.act_eq, hmove]
    rfl
  cases hmoved
  exact hfire m hm hpending

/-! ### The obligation -/

/-- Settles O59: firing empties the slot. For a channel in scope the run invariant says that a pending event belongs to a
completing engine, which a runnable DMAC completes. -/
theorem fairRunsFirePendingEvents : Obligations.FairRunsFirePendingEvents := by
  unfold Obligations.FairRunsFirePendingEvents
  rintro a s ⟨hrun, -, -, hfire, hfireIop⟩
  refine ⟨fun c n hc hinv _ => ?inScope, fun c n hc _ => ?outOfScope, fun f n _ => ?iopHalf⟩
  case inScope =>
    refine (hfire c).eventually_empty hrun (fire := fun t => t.fireEvent c) (slot := fun t => t.ev.get c) (fun _ => rfl)
      fun m hm hpending => ?_
    obtain ⟨hrunInv, hrunnable⟩ := hinv m hm
    obtain ⟨-, -, hevent, -⟩ := hrunInv (hrun.running m).1
    exact State.fireEvent_ev_of_completing hc hrunnable (hevent c hc hpending)
  case outOfScope =>
    exact (hfire c).eventually_empty hrun (fire := fun t => t.fireEvent c) (slot := fun t => t.ev.get c) (fun _ => rfl)
      fun _ _ _ => State.fireEvent_ev_of_outOfScope hc
  case iopHalf =>
    exact (hfireIop f).eventually_empty hrun (fire := fun t => t.fireIopEvent f) (slot := fun t => (t.sif.get f).iopEv)
      (fun _ => rfl) fun m _ _ => (s m).fireIopEvent_iopEv f

end Sys2Proof.Machine
end

section
/-!
PROOFS. What every step keeps, by elementary updates: the effects of a host access and of a tag, said once, and the principle
that a predicate kept by each elementary update of the state is kept by every step.
-/

namespace Sys2Proof.Machine

/-! ### The effects of a host access -/

/-- What a register access, a dispatcher call or an interpreted access can do to the state (40_registers.md R200 to R204,
44_vtlb.md R491, R492). -/
inductive HostEffect (s : State) : State → Prop where
  /-- A value is returned, or a handler outside the block is called. -/
  | env (e : Env) : HostEffect s { s with env := e }
  | refused (r : Refusal) : HostEffect s (s.refuse r)
  | memWrite (r : Region) (off n : Nat) (v : Quad) : HostEffect s (s.memWrite r off n v)
  | chanWrite (c : Ch) (r : ChanReg) (v : Word) : HostEffect s (s.chanWrite c r v)
  | globalWrite (g : GlobalReg) (v : Word) : HostEffect s (s.globalWrite g v)
  | genWrite (a v : Word) : HostEffect s (s.genWrite a v)

theorem interpLoad_hostEffect {w : Width} {sign : Bool} {va : Word} {s s' : State}
    (h : interpLoad w sign va s = .next s') : HostEffect s s' := by
  obtain ⟨e, -, rfl⟩ | ⟨r, rfl⟩ := interpLoad_next h
  · exact .env e
  · exact .refused r

theorem interpStore_hostEffect {w : Width} {va : Word} {v : Quad} {s s' : State}
    (h : interpStore w va v s = .next s') : HostEffect s s' := by
  obtain ⟨r, off, -, rfl⟩ | ⟨pa, -, -, hw⟩ | ⟨k, pa, -, -, rfl⟩ | ⟨r, rfl⟩ := interpStore_next h
  · exact .memWrite r off _ v
  · obtain ⟨c, r, -, rfl⟩ | ⟨g, -, rfl⟩ | ⟨a, -, rfl⟩ := State.dmacWrite32_some hw
    · exact .chanWrite c r _
    · exact .globalWrite g _
    · exact .genWrite a _
  · exact .env _
  · exact .refused r

/-! ### The effects of an instruction -/

/-- What an instruction read on a port can do. -/
inductive ExecEffect (s : State) : Port → State → Prop where
  | host {p : Port} {s' : State} (hp : Port.readsTag p = false) (h : HostEffect s s') : ExecEffect s p s'
  /-- A source tag is taken (41_tag_walker.md R261). -/
  | srcTag (c : SrcCh) (id : BitVec 3) (t : Tag) (rule : IdRule) (h : SrcRule id rule) :
      ExecEffect s (.srcTag c) (s.takeSrcTag c id t rule)
  /-- SIF1, the one stall drain with an engine in scope, stalls on a REFS tag (41_tag_walker.md R266, R295). -/
  | srcStall : ExecEffect s (.srcTag .sif1) (s.stallEnter .sif1)
  /-- A destination tag is taken (41_tag_walker.md R298). -/
  | dstTag (c : DstCh) (id : BitVec 3) (t : Tag) (last cnts : Bool) :
      ExecEffect s (.dstTag c) (s.takeDstTag c id t last cnts)
  | iopTagSif0 (t : IopTag) {s' : State} (h : execIopTagSif0 t s = .next s') : ExecEffect s .iopTagSif0 s'
  | iopTagSif1 (t : IopTag) {s' : State} (h : execIopTagSif1 t s = .next s') : ExecEffect s .iopTagSif1 s'

/-- The stall drain that fetches source tags is SIF1 (30_encoding.md R171). -/
theorem stallDrain_srcCh {ctrl : Word} {c : SrcCh} (h : stallDrain ctrl = some c.toCh) : c = .sif1 := by
  unfold stallDrain at h
  cases c with
  | sif1 => rfl
  | ipu1 | spr1 => split at h <;> cases h

theorem readsTag_swChan (c : Ch) (r : ChanReg) (v : Word) : Port.readsTag (Instr.swChan c r v).port = false := by
  cases c <;> cases r <;> rfl
theorem readsTag_lwChan (c : Ch) (r : ChanReg) : Port.readsTag (Instr.lwChan c r).port = false := by
  cases c <;> cases r <;> rfl
theorem readsTag_swGlobal (g : GlobalReg) (v : Word) : Port.readsTag (Instr.swGlobal g v).port = false := by
  cases g <;> rfl
theorem readsTag_lwGlobal (g : GlobalReg) : Port.readsTag (Instr.lwGlobal g).port = false := by
  cases g <;> rfl

/-- Every instruction has one of the effects of its port. -/
theorem exec_effect {i : Instr} {s s' : State} (h : exec i s = .next s') : ExecEffect s i.port s' := by
  have hform := exec_form i s
  rw [h] at hform
  generalize hr : (Host.Outcome.next s' : Result) = r at hform
  cases hform with
  | swChan c r v => cases hr; exact .host (readsTag_swChan c r v) (.chanWrite c r v)
  | lwChan c r => cases hr; exact .host (readsTag_lwChan c r) (.env _)
  | swGlobal g v => cases hr; exact .host (readsTag_swGlobal g v) (.globalWrite g v)
  | lwGlobal g => cases hr; exact .host (readsTag_lwGlobal g) (.env _)
  | swGen a v =>
    obtain ⟨-, rfl⟩ | ⟨-, rfl⟩ := execSwGen_next hr.symm
    · exact .host rfl (.genWrite a v)
    · exact .host rfl (.refused _)
  | lwGen a =>
    obtain ⟨-, rfl⟩ | ⟨-, rfl⟩ := execLwGen_next hr.symm
    · exact .host rfl (.env _)
    · exact .host rfl (.refused _)
  | load _ _ _ _ hp =>
    rw [hp]
    obtain ⟨-, hl⟩ | rfl := dispatchLoad_next hr.symm
    · exact .host rfl (interpLoad_hostEffect hl)
    · exact .host rfl (.refused _)
  | store _ _ _ _ hp =>
    rw [hp]
    obtain ⟨-, hl⟩ | rfl := dispatchStore_next hr.symm
    · exact .host rfl (interpStore_hostEffect hl)
    · exact .host rfl (.refused _)
  | srcTag _ c id t rule hrule hp => cases hr; rw [hp]; exact .srcTag c id t rule hrule
  | srcStall c t hd => cases hr; cases stallDrain_srcCh hd; exact .srcStall
  | dstTag _ c id t last cnts hp => cases hr; rw [hp]; exact .dstTag c id t last cnts
  | iopTagSif0 t => exact .iopTagSif0 t hr.symm
  | iopTagSif1 t => exact .iopTagSif1 t hr.symm

/-- What the host's action makes of the state. -/
theorem StepForm.hostEffect {s s' : State} {a : Action} {i : Instr}
    (ha : (∃ x v, a = .hostWrite .w32 x v ∧ i.port = .mmioWrite
        ∧ decode .mmioWrite (encodeWrite x (v.setWidth 32)) = .ok i) ∨
      (∃ x, a = .hostRead .w32 x ∧ i.port = .mmioRead ∧ decode .mmioRead (encodeRead x) = .ok i) ∨
      (∃ sel va v, a = .dispatch sel va v ∧ i.port = .dispatch ∧ decode .dispatch (encodeDispatch sel va v) = .ok i))
    (h : exec i s = .next s') : HostEffect s s' := by
  have he := exec_effect h
  obtain ⟨_, _, -, hp, -⟩ | ⟨_, -, hp, -⟩ | ⟨_, _, _, -, hp, -⟩ := ha <;>
  · rw [hp] at he
    cases he with
    | host _ hh => exact hh

end Sys2Proof.Machine
end

section
/-!
PROOFS. The principle of the invariants: a predicate that each elementary update of the state keeps is kept by every step.
An invariant of every step is then one small fact for each field it speaks of.
-/

namespace Sys2Proof.Machine

/-- What every update of the global registers keeps: ENABLER equal to ENABLEW, and the reserved status bits 0. -/
def GlobalsKept (g g' : Globals) : Prop :=
  (g.enabler = g.enablew → g'.enabler = g'.enablew) ∧ (g.stat.extractLsb' 10 3 = 0 → g'.stat.extractLsb' 10 3 = 0)

/-- What every update of a SIF channel keeps: a FIFO within its capacity, and at most three pad words owed. -/
def SifKept (p : Params) (x x' : SifChan) : Prop :=
  x'.fifo.length ≤ max x.fifo.length p.sifFifoWords ∧ x'.iop.writeJunk ≤ max x.iop.writeJunk 3

/-- What every update of the IPU interface keeps: both FIFOs within their capacity. -/
def IpuKept (p : Params) (x x' : Ipu) : Prop :=
  x'.inFifo.length ≤ max x.inFifo.length p.ipuFifoQw ∧ x'.outFifo.length ≤ max x.outFifo.length p.ipuFifoQw

/-- A predicate that each elementary update of the state keeps. -/
structure StepInvariant (P : State → Prop) : Prop where
  chan : ∀ {s : State} (x : PerChan Chan), P s → P { s with chan := x }
  eng : ∀ {s : State} (x : PerChan Engine), P s → P { s with eng := x }
  queued : ∀ {s : State} (x : BitVec 10), P s → P { s with queued := x }
  ev : ∀ {s : State} (x : PerChan (Option Nat)), P s → P { s with ev := x }
  faults : ∀ {s : State} (x : List FaultRecord), P s → P { s with faults := x }
  refused : ∀ {s : State} (x : Option Refusal), P s → P { s with refused := x }
  env : ∀ {s : State} (x : Env), P s → P { s with env := x }
  setG : ∀ {s : State} {g : Globals}, GlobalsKept s.g g → P s → P (s.setG g)
  updSif : ∀ {s : State} {f : Sif} {u : SifChan → SifChan},
    SifKept s.params (s.sif.get f) (u (s.sif.get f)) → P s → P (s.updSif f u)
  ipu : ∀ {s : State} {x : Ipu}, IpuKept s.params s.ipu x → P s → P { s with ipu := x }
  memWrite : ∀ {s : State} (r : Region) (a n : Nat) (v : Quad), P s → P (s.memWrite r a n v)
  genWrite : ∀ {s : State} (a v : Word), P s → P (s.genWrite a v)
  vtlbInit : ∀ {s : State}, P s → P s.vtlbInit
  mmuMap : ∀ {s : State} (p : Nat) (e : VtlbEntry), P s → P (s.mmuMap p e)
  resetBlock : ∀ {s : State}, P s → P s.resetBlock

/-! ### The global registers -/

/-- `hwDmacIrq` is called for the channels' bits and for SIS, MEIS and BEIS, never for bits 12:10 (30_encoding.md R175). -/
theorem globalsKept_hwDmacIrq (g : Globals) {b : Nat} (hb : b < 10 ∨ 13 ≤ b) :
    GlobalsKept g { g with stat := withBit g.stat b true } := by
  refine ⟨id, fun h => ?_⟩
  rw [← h]
  ext i hi
  simp [withBit]
  omega

/-- A write of STAT clears or keeps each bit of the low half (40_registers.md R232). -/
theorem statAfterWrite_reserved {stat : Word} (v : Word) (h : stat.extractLsb' 10 3 = 0) :
    (statAfterWrite stat v).extractLsb' 10 3 = 0 := by
  ext i hi
  have hbit : stat.getLsbD (10 + i) = false := by
    have := congrArg (·.getLsbD i) h
    simpa [BitVec.getLsbD_extractLsb', hi] using this
  rw [← BitVec.getLsbD_eq_getElem, BitVec.getLsbD_extractLsb', statAfterWrite, BitVec.getLsbD_append]
  simp [show 10 + i < 16 by omega, hbit]

/-- A host write of a global register sets it, and may then drain the queued starts (40_registers.md R230 to R241). -/
theorem State.globalWrite_setG (s : State) (r : GlobalReg) (v : Word) :
    ∃ g, GlobalsKept s.g g ∧ (s.globalWrite r v = s.setG g ∨ s.globalWrite r v = (s.setG g).drainQueued) := by
  cases r with
  | ctrl =>
    refine ⟨{ s.g with ctrl := v }, ⟨id, id⟩, ?_⟩
    simp only [State.globalWrite, State.ctrlWrite]
    split
    · exact .inr rfl
    · exact .inl rfl
  | enablew =>
    refine ⟨{ s.g with enablew := v, enabler := v }, ⟨fun _ => rfl, id⟩, ?_⟩
    simp only [State.globalWrite, State.enablewWrite]
    split
    · exact .inr rfl
    · exact .inl rfl
  | stat => exact ⟨{ s.g with stat := statAfterWrite s.g.stat v }, ⟨id, statAfterWrite_reserved v⟩, .inl rfl⟩
  | pcr => exact ⟨{ s.g with pcr := v }, ⟨id, id⟩, .inl rfl⟩
  | sqwc => exact ⟨{ s.g with sqwc := v }, ⟨id, id⟩, .inl rfl⟩
  | rbsr => exact ⟨{ s.g with rbsr := v }, ⟨id, id⟩, .inl rfl⟩
  | rbor => exact ⟨{ s.g with rbor := v }, ⟨id, id⟩, .inl rfl⟩
  | stadr => exact ⟨{ s.g with stadr := v }, ⟨id, id⟩, .inl rfl⟩
  | enabler => exact ⟨s.g, ⟨id, id⟩, .inl rfl⟩

/-! ### The FIFOs and the IOP halves -/

/-- An update that leaves the FIFO and does not raise the pad count. -/
theorem sifKept_of_fifo_eq {p : Params} {x x' : SifChan} (hf : x'.fifo = x.fifo)
    (hj : x'.iop.writeJunk ≤ max x.iop.writeJunk 3) : SifKept p x x' :=
  ⟨by rw [hf]; exact Nat.le_max_left .., hj⟩

theorem junkOf_le (w : Nat) : junkOf w ≤ 3 := by unfold junkOf; omega

namespace StepInvariant
variable {P : State → Prop} (hP : StepInvariant P) {s : State}
include hP

theorem sifPush (f : Sif) (ws : List Word) (h : P s) : P (s.sifPush f ws) := by
  unfold State.sifPush
  split
  · exact hP.faults _ h
  · next hfree =>
    refine hP.updSif (u := fun x => { x with fifo := x.fifo ++ ws }) ⟨?_, Nat.le_max_left ..⟩ h
    simp only [State.sifFree, State.sifSize] at hfree
    simp only [List.length_append]
    omega

theorem sifPop (f : Sif) (n : Nat) (h : P s) : P (s.sifPop f n).2 := by
  unfold State.sifPop
  split
  · exact hP.faults _ h
  · refine hP.updSif (u := fun x => { x with fifo := x.fifo.drop n }) ⟨?_, Nat.le_max_left ..⟩ h
    simp only [List.length_drop]
    omega

theorem ipuInPush (q : Quad) (h : P s) : P (s.ipuInPush q) := by
  unfold State.ipuInPush
  split
  · exact hP.faults _ h
  · next hfree =>
    refine hP.ipu ⟨?_, Nat.le_max_left ..⟩ h
    simp only [State.ipuInFree] at hfree
    simp only [List.length_append, List.length_singleton]
    omega

theorem ipuOutPush (q : Quad) (h : P s) : P (s.ipuOutPush q) := by
  unfold State.ipuOutPush
  split
  · exact hP.faults _ h
  · next hfree =>
    refine hP.ipu ⟨Nat.le_max_left .., ?_⟩ h
    simp only [State.ipuOutFree] at hfree
    simp only [List.length_append, List.length_singleton]
    omega

theorem ipuInPop (h : P s) : P s.ipuInPop := by
  unfold State.ipuInPop
  split
  · exact hP.faults _ h
  · next q rest hq =>
    refine hP.ipu ⟨?_, Nat.le_max_left ..⟩ h
    simp only [hq, List.length_cons]
    omega

theorem ipuOutPop (h : P s) : P s.ipuOutPop.2 := by
  unfold State.ipuOutPop
  split
  · exact hP.faults _ h
  · next q rest hq =>
    refine hP.ipu ⟨Nat.le_max_left .., ?_⟩ h
    simp only [hq, List.length_cons]
    omega

theorem takeSif (f : Sif) (h : P s) : P (State.takeSif f s).2 := hP.sifPop f 4 h

theorem giveSif (f : Sif) (q : Quad) (h : P s) : P (State.giveSif f q s) := hP.sifPush f _ h

theorem takeSpr (h : P s) : P s.takeSpr.2 := hP.chan (s.advanceSadr .spr0).chan h

theorem giveSpr (q : Quad) (h : P s) : P (State.giveSpr q s) := hP.chan _ (hP.memWrite _ _ _ _ h)

/-- The free values are a field of the model's own (log 2). -/
theorem drawN (n : Nat) (h : P s) : P (s.drawN n).2 := by
  induction n generalizing s with
  | zero => exact h
  | succ n ih => exact ih (hP.env _ h)

theorem addIopCycles (f : Sif) (n : Nat) (h : P s) : P (s.addIopCycles f n) :=
  hP.updSif (sifKept_of_fifo_eq rfl (Nat.le_max_left ..)) h

theorem loadIopTag (f : Sif) (t : IopTag) (h : P s) : P (s.loadIopTag f t) :=
  hP.updSif (sifKept_of_fifo_eq rfl (le_max_of_le_right (junkOf_le _))) h

theorem iopWriteN (a : Word) (ws : List Word) (h : P s) : P (s.iopWriteN a ws) := by
  induction ws generalizing s a with
  | nil => exact h
  | cons w ws ih => exact ih _ (hP.memWrite _ _ _ _ h)

theorem iopPushData (f : Sif) (n : Nat) (h : P s) : P (s.iopPushData f n) :=
  hP.addIopCycles f n (hP.updSif (sifKept_of_fifo_eq rfl (Nat.le_max_left ..)) (hP.sifPush f _ h))

theorem iopPopData (f : Sif) (n : Nat) (h : P s) : P (s.iopPopData f n) :=
  hP.addIopCycles f n (hP.updSif (sifKept_of_fifo_eq rfl (Nat.le_max_left ..)) (hP.iopWriteN _ _ (hP.sifPop f n h)))

theorem iopPushJunk (f : Sif) (h : P s) : P (s.iopPushJunk f) :=
  hP.addIopCycles f _ (hP.updSif (sifKept_of_fifo_eq rfl (Nat.zero_le _)) (hP.sifPush f _ (hP.drawN _ h)))

theorem iopPopJunk (f : Sif) (h : P s) : P (s.iopPopJunk f) :=
  hP.addIopCycles f _ (hP.updSif (sifKept_of_fifo_eq rfl (Nat.zero_le _)) (hP.sifPop f _ h))

theorem endIOP (f : Sif) (h : P s) : P (s.endIOP f) :=
  hP.updSif (sifKept_of_fifo_eq rfl (Nat.le_max_left ..)) h

theorem iopStart (f : Sif) (madr tadr : Word) (words : Nat) (h : P s) : P (s.iopStart f madr tadr words) := by
  unfold State.iopStart
  split
  · exact h
  · refine hP.updSif ?_ h
    cases f with
    | sif0 | sif1 => exact sifKept_of_fifo_eq rfl (Nat.zero_le _)
    | sif2 => exact sifKept_of_fifo_eq rfl (le_max_of_le_right (junkOf_le _))

theorem iopTagSif0 {t : IopTag} {s' : State} (h : P s) (he : execIopTagSif0 t s = .next s') : P s' := by
  cases he
  exact hP.addIopCycles _ _ (hP.loadIopTag _ t
    (hP.updSif (sifKept_of_fifo_eq rfl (Nat.le_max_left ..)) (hP.sifPush _ _ (hP.drawN 2 h))))

theorem iopTagSif1 {t : IopTag} {s' : State} (h : P s) (he : execIopTagSif1 t s = .next s') : P s' := by
  cases he
  exact hP.addIopCycles _ _ (hP.loadIopTag _ t (hP.sifPop _ _ h))

/-! ### Status bits, the ends of a run and its start -/

theorem hwDmacIrq {b : Nat} (hb : b < 10 ∨ 13 ≤ b) (h : P s) : P (s.hwDmacIrq b) :=
  hP.setG (globalsKept_hwDmacIrq s.g hb) h

theorem busError (c : Ch) (h : P s) : P (s.busError c) :=
  hP.queued _ (hP.ev _ (hP.eng _ (hP.chan _ (hP.hwDmacIrq (.inr (by decide)) h))))

theorem complete (c : Ch) (h : P s) : P (s.complete c) :=
  hP.hwDmacIrq (.inl (Ch.num_lt c)) (hP.eng _ (hP.chan _ (hP.ev _ h)))

theorem startChannel (c : Ch) (h : P s) : P (s.startChannel c) := by
  rw [State.startChannel_eq]
  split
  · exact hP.faults _ h
  · exact hP.eng _ h

theorem drainOne (c : Ch) (h : P s) : P (s.drainOne c) := by
  unfold State.drainOne
  split
  · exact hP.startChannel c (hP.queued _ h)
  · exact h

theorem drainQueued (h : P s) : P s.drainQueued :=
  List.foldlRecOn Ch.all State.drainOne h fun _ ht c _ => hP.drainOne c ht

/-! ### The host's accesses -/

theorem dmaExec (c : Ch) (v : Word) (h : P s) : P (s.dmaExec c v) := by
  unfold State.dmaExec
  split
  · split
    · exact h
    · exact hP.eng _ (hP.queued _ (hP.ev _ (hP.chan _ h)))
  · split
    · simp only []
      split
      · exact hP.startChannel c (hP.chan _ h)
      · exact hP.eng _ (hP.queued _ (hP.chan _ h))
    · exact hP.chan _ h

theorem chanWrite (c : Ch) (r : ChanReg) (v : Word) (h : P s) : P (s.chanWrite c r v) := by
  unfold State.chanWrite
  split
  · exact hP.dmaExec c v h
  · unfold State.chanRegWrite
    split
    · exact h
    · exact hP.chan _ h

theorem globalWrite (r : GlobalReg) (v : Word) (h : P s) : P (s.globalWrite r v) := by
  obtain ⟨g, hg, he | he⟩ := s.globalWrite_setG r v
  · rw [he]; exact hP.setG hg h
  · rw [he]; exact hP.drainQueued (hP.setG hg h)

theorem hostEffect {s' : State} (h : P s) (he : HostEffect s s') : P s' := by
  cases he with
  | env e => exact hP.env e h
  | refused r => exact hP.refused _ h
  | memWrite r off n v => exact hP.memWrite r off n v h
  | chanWrite c r v => exact hP.chanWrite c r v h
  | globalWrite g v => exact hP.globalWrite g v h
  | genWrite a v => exact hP.genWrite a v h

/-! ### The tags -/

theorem tteAction (c : SrcCh) (q : Quad) (h : P s) : P (s.tteAction c q) := by
  unfold State.tteAction
  split
  · cases c with
    | ipu1 => exact h
    | sif1 => exact hP.sifPush _ _ h
    | spr1 => exact hP.chan _ (hP.memWrite _ _ _ _ h)
  · exact h

theorem takeSrcTag (c : SrcCh) {id : BitVec 3} (t : Tag) {rule : IdRule} (hrule : SrcRule id rule) (h : P s) :
    P (s.takeSrcTag c id t rule) := by
  refine hP.eng _ (hP.tteAction c _ (hP.eng _ ?_))
  rw [hrule.updates]
  exact hP.env _ (hP.chan _ (hP.chan _ h))

theorem stallEnter (c : Ch) (h : P s) : P (s.stallEnter c) :=
  hP.eng _ (hP.hwDmacIrq (.inr (by decide)) h)

theorem takeDstTag (c : DstCh) (id : BitVec 3) (t : Tag) (last cnts : Bool) (h : P s) :
    P (s.takeDstTag c id t last cnts) :=
  hP.eng _ (hP.chan _ h)

theorem execEffect {p : Port} {s' : State} (h : P s) (he : ExecEffect s p s') : P s' := by
  cases he with
  | host _ hh => exact hP.hostEffect h hh
  | srcTag c id t rule hrule => exact hP.takeSrcTag c t hrule h
  | srcStall => exact hP.stallEnter _ h
  | dstTag c id t last cnts => exact hP.takeDstTag c id t last cnts h
  | iopTagSif0 t ht => exact hP.iopTagSif0 h ht
  | iopTagSif1 t ht => exact hP.iopTagSif1 h ht

/-! ### The transfer steps -/

theorem moveToMemory {c : Ch} {take : State → Quad × State} (ht : P (take s).2) {s' : State}
    (he : s.moveToMemory c take = some s') : P s' := by
  unfold State.moveToMemory at he
  split at he
  · cases he
  · cases he; exact hP.chan _ (hP.memWrite _ _ _ _ ht)

theorem moveFromMemory {c : Ch} {give : Quad → State → State} (hg : ∀ q, P (give q s)) {s' : State}
    (he : s.moveFromMemory c give = some s') : P s' := by
  unfold State.moveFromMemory at he
  split at he
  · cases he
  · cases he; exact hP.chan _ (hg _)

theorem moveOne {c : Ch} {s' : State} (h : P s) (he : s.moveOne c = some s') : P s' := by
  unfold State.moveOne at he
  cases c with
  | vif0 | vif1 | gif => cases he
  | ipu0 => exact hP.moveToMemory (hP.ipuOutPop h) he
  | ipu1 => exact hP.moveFromMemory (fun q => hP.ipuInPush q h) he
  | sif0 => exact hP.moveToMemory (hP.takeSif _ h) he
  | sif1 => exact hP.moveFromMemory (fun q => hP.giveSif _ q h) he
  | sif2 =>
    simp only [] at he
    split at he
    · exact hP.moveFromMemory (fun q => hP.giveSif _ q h) he
    · exact hP.moveToMemory (hP.takeSif _ h) he
  | spr0 => exact hP.moveToMemory (hP.takeSpr h) he
  | spr1 => exact hP.moveFromMemory (fun q => hP.giveSpr q h) he

theorem interleaveOne (c : Ch) (h : P s) : P (s.interleaveOne c) := by
  unfold State.interleaveOne
  split
  · simp only []
    split
    · exact hP.eng _ (hP.chan _ h)
    · exact hP.eng _ h
  · exact h

theorem moveN (c : Ch) (n : Nat) (h : P s) : P (s.moveN c n).1 := by
  induction n generalizing s with
  | zero => exact h
  | succ n ih =>
    unfold State.moveN
    split
    · exact hP.busError c h
    · next s1 hs1 => exact ih (hP.interleaveOne c (hP.eng _ (hP.chan _ (hP.moveOne h hs1))))

theorem endUnit (c : Ch) (h : P s) : P (s.endUnit c) := by
  unfold State.endUnit
  simp only []
  split
  · split
    · exact hP.ev _ (hP.eng _ h)
    · exact hP.ev _ (hP.eng _ h)
  · exact hP.eng _ h

theorem stallSrcUpdate (c : Ch) (h : P s) : P (s.stallSrcUpdate c) := by
  unfold State.stallSrcUpdate
  simp only []
  split
  · exact hP.setG ⟨id, id⟩ h
  · exact h

theorem transferStep (c : Ch) (n : Nat) (h : P s) : P (s.transferStep c n) := by
  have hmoved := hP.moveN c n h
  unfold State.transferStep
  split
  · next s1 hs1 => rw [hs1] at hmoved; exact hmoved
  · next s1 hs1 =>
    rw [hs1] at hmoved
    have hcounted := hP.eng ((s1.stallSrcUpdate c).addCycles c n).eng (hP.stallSrcUpdate c hmoved)
    simp only []
    split
    · exact hP.endUnit c hcounted
    · exact hcounted

theorem transferPhase (c : Ch) (n : Nat) (h : P s) : P (s.transferPhase c n) := by
  unfold State.transferPhase
  split
  · exact hP.endUnit c h
  · split
    · split
      · exact hP.eng _ h
      · exact h
    · exact hP.transferStep c _ h

/-! ### The events and the external agents -/

theorem fireEvent (c : Ch) (h : P s) : P (s.fireEvent c) := by
  unfold State.fireEvent
  split
  · exact h
  · split
    · split
      · exact hP.complete c h
      · exact h
    · split
      · exact hP.complete c h
      · exact hP.ev _ h

theorem fireIopEvent (f : Sif) (h : P s) : P (s.fireIopEvent f) := by
  unfold State.fireIopEvent
  split
  · exact h
  · exact hP.env _ (hP.updSif (sifKept_of_fifo_eq rfl (Nat.le_max_left ..)) h)

theorem extPump (c : Ch) (op : ExtOp) (h : P s) : P (s.extPump c op) := by
  unfold State.extPump
  split
  · split
    · exact hP.chan _ h
    · exact hP.chan _ h
    · exact hP.hwDmacIrq (.inl (Ch.num_lt c)) h
    · exact hP.eng _ (hP.chan _ h)
  · exact h

theorem extSchedule (c : Ch) (d : Nat) (h : P s) : P (s.extSchedule c d) := by
  unfold State.extSchedule
  split
  · exact hP.ev _ h
  · exact h

theorem iopCpuStore (w : Width) (x : Word) (v : Quad) (h : P s) : P (s.iopCpuStore w x v) := by
  unfold State.iopCpuStore
  split
  · exact hP.memWrite _ _ _ _ h
  · exact h

/-! ### The step -/

theorem stepForm {a : Action} {s' : State} (h : P s) (hs : StepForm s a s') : P s' := by
  cases hs with
  | held => exact h
  | host _ _ _ _ he => exact hP.execEffect h (exec_effect he)
  | refused e _ => exact hP.refused _ h
  | interpLoad _ _ _ _ _ he => exact hP.hostEffect h (interpLoad_hostEffect he)
  | interpStore _ _ _ _ _ he => exact hP.hostEffect h (interpStore_hostEffect he)
  | vtlbInit => exact hP.vtlbInit h
  | tagBusError c => exact hP.busError _ h
  | srcTag _ _ _ _ _ _ _ _ _ _ _ he => exact hP.execEffect h (exec_effect he)
  | dstTagSif0 _ _ _ _ _ _ _ _ he => exact hP.execEffect (hP.takeSif _ h) (exec_effect he)
  | dstTagSpr0 _ _ _ _ _ _ _ he => exact hP.execEffect (hP.chan _ h) (exec_effect he)
  | transfer c n => exact hP.transferPhase c n h
  | refetch => exact hP.eng _ h
  | wake => exact hP.eng _ h
  | iopPushData f n => exact hP.iopPushData f _ h
  | iopPopData f n => exact hP.iopPopData f _ h
  | iopPushJunk f => exact hP.iopPushJunk f h
  | iopPopJunk f => exact hP.iopPopJunk f h
  | iopEnd f => exact hP.endIOP f h
  | iopTagSif0 _ _ _ _ _ _ _ _ he => exact hP.iopTagSif0 h he
  | iopTagSif1 _ _ _ _ _ _ _ _ he => exact hP.iopTagSif1 h he
  | fire c => exact hP.fireEvent c h
  | fireIop f => exact hP.fireIopEvent f h
  | iopStart f madr tadr words => exact hP.iopStart f madr tadr words h
  | ipuPush q => exact hP.ipuOutPush q h
  | ipuPop => exact hP.ipuInPop h
  | ipuRequest b => exact hP.ipu ⟨Nat.le_max_left .., Nat.le_max_left ..⟩ h
  | extPump c op => exact hP.extPump c op h
  | extSchedule c d => exact hP.extSchedule c d h
  | mfifoEmpty => exact hP.hwDmacIrq (.inr (by decide)) h
  | mmuMap p e => exact hP.mmuMap p e h
  | iopCpuStore w x v => exact hP.iopCpuStore w x v h
  | reset => exact hP.resetBlock h

/-- A predicate that each elementary update keeps is kept by every step. -/
theorem step {s' : State} (h : P s) (hs : Machine.step s = .next s') : P s' := by
  obtain ⟨-, -, hform⟩ := step_form hs
  obtain ⟨e, -, -, he⟩ := s.nextAction_env
  rw [he] at hform
  exact hP.stepForm (hP.env e h) hform

end StepInvariant

end Sys2Proof.Machine
end

section
/-!
PROOFS. O10, O11 and O14: the data forms, FIFO bounds, the shadow ENABLER, the reserved status bits and the parameters, each
kept by every elementary update of the state.
-/

namespace Sys2Proof.Machine

/-! ### The canonical form -/

/-- The canonical form speaks of the memories, the generic cells and the page map only. -/
theorem State.memoryCanonical_iff (s : State) :
    s.memoryCanonical ↔ s.mem.wf ∧ cellsWf (0 : Word) s.gen ∧ s.vtlb.vmap.Pairwise (fun x y => x.1 < y.1) := by
  unfold State.memoryCanonical Memories.wf
  tauto

/-- A store writes a canonical list, and so do a generic-cell write (10_state.md R37) and a page-map write (R70). -/
theorem memoryCanonical_invariant : StepInvariant State.memoryCanonical where
  chan _ h := h
  eng _ h := h
  queued _ h := h
  ev _ h := h
  faults _ h := h
  refused _ h := h
  env _ h := h
  setG _ h := h
  updSif _ h := h
  ipu _ h := h
  memWrite r a n v h := by
    obtain ⟨hmem, hgen, hmap⟩ := (State.memoryCanonical_iff _).mp h
    exact (State.memoryCanonical_iff _).mpr ⟨State.memWrite_wf hmem r a n v, hgen, hmap⟩
  genWrite a v h := by
    obtain ⟨hmem, hgen, hmap⟩ := (State.memoryCanonical_iff _).mp h
    exact (State.memoryCanonical_iff _).mpr ⟨hmem, cellsWf_put hgen _ v, hmap⟩
  vtlbInit h := by
    unfold State.vtlbInit
    split
    · exact h
    · exact h
  mmuMap p e h := by
    unfold State.mmuMap
    split
    · obtain ⟨hmem, hgen, hmap⟩ := (State.memoryCanonical_iff _).mp h
      exact (State.memoryCanonical_iff _).mpr ⟨hmem, hgen, cellInsert_pairwise hmap p e⟩
    · exact h
  resetBlock h := by
    obtain ⟨hmem, -, -⟩ := (State.memoryCanonical_iff _).mp h
    exact (State.memoryCanonical_iff _).mpr
      ⟨hmem, ⟨List.Pairwise.nil, fun _ hc => nomatch hc⟩, List.Pairwise.nil⟩

/-- Settles O10: every elementary update keeps the canonical form. -/
theorem stepKeepsMemoryCanonical : Obligations.StepKeepsMemoryCanonical := by
  unfold Obligations.StepKeepsMemoryCanonical
  exact fun _ _ => memoryCanonical_invariant.step

/-! ### The FIFO bounds -/

/-- Reset empties every FIFO (70_reset_and_hazards.md R700). -/
theorem State.resetBlock_fifosBounded (s : State) : s.resetBlock.fifosBounded := by
  refine ⟨fun f => ?_, Nat.zero_le _, Nat.zero_le _⟩
  have hf : s.resetBlock.sif.get f = SifChan.reset := PerSif.get_all _ f
  rw [hf]
  exact ⟨Nat.zero_le _, Nat.zero_le _⟩

/-- No update lets a FIFO pass its capacity or an IOP half owe more than three pad words (43_fifo_sif.md R400, R411). -/
theorem fifosBounded_invariant : StepInvariant State.fifosBounded where
  chan _ h := h
  eng _ h := h
  queued _ h := h
  ev _ h := h
  faults _ h := h
  refused _ h := h
  env _ h := h
  setG _ h := h
  updSif {s f u} hu h := by
    obtain ⟨hsif, hipu⟩ := h
    refine ⟨fun k => ?_, hipu⟩
    rw [State.updSif_sif, State.updSif_params, PerSif.get_set]
    split
    · obtain ⟨hfifo, hjunk⟩ := hsif f
      exact ⟨hu.1.trans (max_le hfifo le_rfl), hu.2.trans (max_le hjunk le_rfl)⟩
    · exact hsif k
  ipu {s x} hx h := by
    obtain ⟨hsif, hin, hout⟩ := h
    exact ⟨hsif, hx.1.trans (max_le hin le_rfl), hx.2.trans (max_le hout le_rfl)⟩
  memWrite _ _ _ _ h := h
  genWrite _ _ h := h
  vtlbInit h := by
    unfold State.vtlbInit
    split
    · exact h
    · exact h
  mmuMap _ _ h := by
    unfold State.mmuMap
    split
    · exact h
    · exact h
  resetBlock {s} _ := s.resetBlock_fifosBounded

/-- Settles O11: every elementary update keeps the bounds; a push that has no room records the fault and pushes nothing. -/
theorem stepKeepsFifosBounded : Obligations.StepKeepsFifosBounded := by
  unfold Obligations.StepKeepsFifosBounded
  exact fun _ _ => fifosBounded_invariant.step

/-! ### The global registers and the parameters -/

/-- The parameters and what every update keeps of the global registers, against a fixed state `s`. -/
def State.globalsKeptFrom (s t : State) : Prop := t.params = s.params ∧ GlobalsKept s.g t.g

theorem globalsKeptFrom_invariant (s : State) : StepInvariant s.globalsKeptFrom where
  chan _ h := h
  eng _ h := h
  queued _ h := h
  ev _ h := h
  faults _ h := h
  refused _ h := h
  env _ h := h
  setG hg h := by
    obtain ⟨hparams, henabler, hstat⟩ := h
    exact ⟨hparams, hg.1 ∘ henabler, hg.2 ∘ hstat⟩
  updSif _ h := h
  ipu _ h := h
  memWrite _ _ _ _ h := h
  genWrite _ _ h := h
  vtlbInit h := by
    unfold State.vtlbInit
    split
    · exact h
    · exact h
  mmuMap _ _ h := by
    unfold State.mmuMap
    split
    · exact h
    · exact h
  resetBlock h := ⟨h.1, fun _ => rfl, fun _ => (by decide : (0 : Word).extractLsb' 10 3 = 0)⟩

/-- Settles O14: no update touches the parameters, and every update of the global registers is a `GlobalsKept` one. -/
theorem stepKeepsEnablerReservedBitsAndParameters : Obligations.StepKeepsEnablerReservedBitsAndParameters := by
  unfold Obligations.StepKeepsEnablerReservedBitsAndParameters
  intro s s' hs
  obtain ⟨hparams, henabler, hstat⟩ := (globalsKeptFrom_invariant s).step ⟨rfl, id, id⟩ hs
  exact ⟨hparams, henabler, hstat⟩

end Sys2Proof.Machine
end

section
/-!
PROOFS. O54: what a move leaves in its channel's registers, what the counts after it are, and the moves of a step one after the
other (42_channel_engines.md R325, R327).
-/

namespace Sys2Proof.Machine
open Sys2Proof.Claims

/-! ### A move and its channel -/

/-- MADR after a quadword (42_channel_engines.md R327), on SPR0 with MFD 2 or 3 in the ring of RBOR and RBSR. -/
def madrNext (g : Globals) (c : Ch) (a : Word) : Word :=
  if c = .spr0 ∧ g.ctrl.getLsbD 3 = true then mfifoAddr g (a + 16) else a + 16

/-- MFD is 2 or 3 exactly when CTRL bit 3 is 1 (30_encoding.md R171). -/
theorem mfifoOn_eq_bit (ctrl : Word) : mfifoOn ctrl = ctrl.getLsbD 3 := by
  have hbit : ∀ m : BitVec 2, (m == 2 || m == 3) = m.getLsbD 1 := by decide
  rw [mfifoOn, hbit, ctrlMfd, BitVec.getLsbD_extractLsb']
  rfl

theorem State.advanceMadr_eq (s : State) (c : Ch) :
    s.advanceMadr c = s.updChan c fun d => { d with madr := madrNext s.g c d.madr } := by
  unfold State.advanceMadr madrNext
  rw [mfifoOn_eq_bit]
  split <;> rfl

/-- The registers a move may leave: MADR advances, SADR is the scratchpad's, the others are as they were. -/
def State.chanMoved (s : State) (c : Ch) (sadr : Word) : PerChan Chan :=
  s.chan.set c { s.chan.get c with sadr := sadr, madr := madrNext s.g c (s.chan.get c).madr }

theorem State.advanceMadr_chanMoved {s t : State} {c : Ch} {a : Word} (hg : t.g = s.g)
    (hchan : t.chan = s.chan.set c { s.chan.get c with sadr := a }) : (t.advanceMadr c).chan = s.chanMoved c a := by
  rw [State.advanceMadr_eq, State.updChan_chan, hchan, hg]
  simp [State.chanMoved]

/-- A register file with SADR put back. -/
theorem PerChan.eq_set_sadr (p : PerChan Chan) (c : Ch) : p = p.set c { p.get c with sadr := (p.get c).sadr } :=
  (p.set_get_self c).symm

theorem State.moveToMemory_chan {s s' : State} {c : Ch} {take : State → Quad × State} {a : Word}
    (hg : (take s).2.g = s.g) (hchan : (take s).2.chan = s.chan.set c { s.chan.get c with sadr := a })
    (h : s.moveToMemory c take = some s') : s'.chan = s.chanMoved c a := by
  unfold State.moveToMemory at h
  split at h
  · cases h
  · cases h; exact State.advanceMadr_chanMoved (t := State.memWrite ..) hg hchan

theorem State.moveFromMemory_chan {s s' : State} {c : Ch} {give : Quad → State → State} {a : Word}
    (hg : ∀ q, (give q s).g = s.g) (hchan : ∀ q, (give q s).chan = s.chan.set c { s.chan.get c with sadr := a })
    (h : s.moveFromMemory c give = some s') : s'.chan = s.chanMoved c a := by
  unfold State.moveFromMemory at h
  split at h
  · cases h
  · cases h; exact State.advanceMadr_chanMoved (hg _) (hchan _)

/-- A move advances its channel's MADR and writes no other register but SADR, nor any other channel's. -/
theorem State.moveOne_chan {s s' : State} {c : Ch} (h : s.moveOne c = some s') : ∃ a, s'.chan = s.chanMoved c a := by
  have hkeep := s.chan.eq_set_sadr
  unfold State.moveOne at h
  cases c with
  | vif0 | vif1 | gif => cases h
  | ipu0 => exact ⟨_, State.moveToMemory_chan (by simp) ((s.ipuOutPop_chan).trans (hkeep _)) h⟩
  | ipu1 => exact ⟨_, State.moveFromMemory_chan (by simp) (fun q => (s.ipuInPush_chan q).trans (hkeep _)) h⟩
  | sif0 => exact ⟨_, State.moveToMemory_chan (by simp) ((s.takeSif_chan _).trans (hkeep _)) h⟩
  | sif1 => exact ⟨_, State.moveFromMemory_chan (by simp) (fun q => (s.giveSif_chan _ q).trans (hkeep _)) h⟩
  | sif2 =>
    simp only [] at h
    split at h
    · exact ⟨_, State.moveFromMemory_chan (by simp) (fun q => (s.giveSif_chan _ q).trans (hkeep _)) h⟩
    · exact ⟨_, State.moveToMemory_chan (by simp) ((s.takeSif_chan _).trans (hkeep _)) h⟩
  | spr0 => exact ⟨_, State.moveToMemory_chan (take := State.takeSpr) rfl rfl h⟩
  | spr1 =>
    exact ⟨sadrNext (s.chan.get .spr1).sadr,
      State.moveFromMemory_chan (give := State.giveSpr) (fun _ => rfl) (fun _ => rfl) h⟩

/-! ### The counts -/

/-- The counts after a quadword, in every mode. -/
theorem State.countOne_interleaveOne (s : State) (c : Ch) : (s.countOne c).interleaveOne c = counted s c := by
  unfold State.interleaveOne State.countOne counted
  by_cases hm : (s.eng.get c).mode = .interleave
  · simp [hm, sqwcTq, sqwcSkip, State.updChan, State.updEng]
  · simp [hm, State.updChan, State.updEng]

theorem State.busError_eq_halted (s : State) (c : Ch) : s.busError c = halted s c := rfl

theorem counted_chan (s : State) (c : Ch) : ∃ madr,
    (counted s c).chan = s.chan.set c { s.chan.get c with madr := madr, qwc := (s.chan.get c).qwc - 1 } := by
  unfold counted
  simp only []
  split
  · exact ⟨_, rfl⟩
  · exact ⟨_, rfl⟩

theorem counted_eng (s : State) (c : Ch) : ∃ blk,
    (counted s c).eng = s.eng.set c { s.eng.get c with rem := (s.eng.get c).rem - 1, blk := blk } := by
  unfold counted
  simp only []
  split
  · exact ⟨_, rfl⟩
  · exact ⟨_, rfl⟩

/-- Only an interleave run skips (42_channel_engines.md R331). -/
theorem counted_madr {s : State} {c : Ch} (hm : (s.eng.get c).mode ≠ .interleave) :
    ((counted s c).chan.get c).madr = (s.chan.get c).madr := by
  simp [counted, hm]

/-- The counts are in a channel's registers and its engine. -/
theorem counted_frame (s : State) (c : Ch) :
    (counted s c).queued = s.queued ∧ (counted s c).ev = s.ev ∧ (counted s c).g = s.g := by
  unfold counted
  simp only []
  split
  · exact ⟨rfl, rfl, rfl⟩
  · exact ⟨rfl, rfl, rfl⟩

/-- What one quadword of a transfer step leaves, from before its move to after its counts, in every mode. -/
structure QuadMoved (c : Ch) (s t : State) : Prop where
  chan : ∃ sadr madr, t.chan = s.chan.set c
    { s.chan.get c with sadr := sadr, madr := madr, qwc := (s.chan.get c).qwc - 1 }
  eng : ∃ blk, t.eng = s.eng.set c { s.eng.get c with rem := (s.eng.get c).rem - 1, blk := blk }
  queued : t.queued = s.queued
  ev : t.ev = s.ev
  g : t.g = s.g
  madr : (s.eng.get c).mode ≠ .interleave → (t.chan.get c).madr = madrNext s.g c (s.chan.get c).madr

theorem State.moveOne_quadMoved {s s1 : State} {c : Ch} (h : s.moveOne c = some s1) :
    QuadMoved c s (counted s1 c) := by
  obtain ⟨sadr, hmoved⟩ := State.moveOne_chan h
  have heng := State.moveOne_eng h
  obtain ⟨madr, hchan⟩ := counted_chan s1 c
  obtain ⟨blk, hcount⟩ := counted_eng s1 c
  obtain ⟨hqueued, hev, hg⟩ := counted_frame s1 c
  exact {
    chan := ⟨sadr, madr, by rw [hchan, hmoved]; simp [State.chanMoved]⟩
    eng := ⟨blk, by rw [hcount, heng]⟩
    queued := hqueued.trans (State.moveOne_queued h)
    ev := hev.trans (State.moveOne_ev h)
    g := hg.trans (State.moveOne_g h)
    madr := fun hm => by rw [counted_madr (heng ▸ hm), hmoved]; simp [State.chanMoved] }

/-- The moves of a step, one after the other, up to a bus error. -/
theorem State.moveN_succ_of_some {s s1 : State} {c : Ch} (h : s.moveOne c = some s1) (n : Nat) :
    s.moveN c (n + 1) = (counted s1 c).moveN c n := by
  rw [State.moveN, h, ← State.countOne_interleaveOne]

theorem State.moveN_succ_of_none {s : State} {c : Ch} (h : s.moveOne c = none) (n : Nat) :
    s.moveN c (n + 1) = (halted s c, false) := by
  rw [State.moveN, h, ← State.busError_eq_halted]

/-- Moves that met no bus error: the first, and then the others. -/
theorem State.moveN_succ_true {s s' : State} {c : Ch} {n : Nat} (h : s.moveN c (n + 1) = (s', true)) :
    ∃ t, QuadMoved c s t ∧ t.moveN c n = (s', true) := by
  cases hmove : s.moveOne c with
  | none => rw [State.moveN_succ_of_none hmove] at h; cases h
  | some s1 =>
    rw [State.moveN_succ_of_some hmove] at h
    exact ⟨_, State.moveOne_quadMoved hmove, h⟩

/-! ### `n` quadwords outside interleave mode -/

theorem madrAfter_succ (s : State) (c : Ch) (n : Nat) : madrAfter s c (n + 1) = madrNext s.g c (madrAfter s c n) := rfl

/-- The first quadword taken off. -/
theorem madrAfter_eq_of_first {s t : State} {c : Ch} (hg : t.g = s.g)
    (hmadr : (t.chan.get c).madr = madrNext s.g c (s.chan.get c).madr) (n : Nat) :
    madrAfter t c n = madrAfter s c (n + 1) := by
  induction n with
  | zero => exact hmadr
  | succ n ih => rw [madrAfter_succ, madrAfter_succ s, ih, hg]

/-- Outside the MFIFO form MADR advances by 16 for each quadword. -/
theorem madrAfter_linear {s : State} {c : Ch} (hring : ¬ (c = .spr0 ∧ s.g.ctrl.getLsbD 3 = true)) (n : Nat) :
    madrAfter s c n = (s.chan.get c).madr + BitVec.ofNat 32 (16 * n) := by
  induction n with
  | zero => simp [madrAfter]
  | succ n ih =>
    rw [madrAfter_succ, madrNext, if_neg hring, ih, Nat.mul_succ, BitVec.ofNat_add, BitVec.add_assoc]
    rfl

/-- What `n` quadwords leave of a channel outside interleave mode. -/
structure QuadsMoved (c : Ch) (n : Nat) (s t : State) : Prop where
  madr : (t.chan.get c).madr = madrAfter s c n
  qwc : (t.chan.get c).qwc = (s.chan.get c).qwc - BitVec.ofNat 16 n
  rem : (t.eng.get c).rem = (s.eng.get c).rem - n
  chcr : (t.chan.get c).chcr = (s.chan.get c).chcr
  tadr : (t.chan.get c).tadr = (s.chan.get c).tadr
  asr0 : (t.chan.get c).asr0 = (s.chan.get c).asr0
  asr1 : (t.chan.get c).asr1 = (s.chan.get c).asr1

theorem State.moveN_quadsMoved {s s' : State} {c : Ch} {n : Nat} (hm : (s.eng.get c).mode ≠ .interleave)
    (h : s.moveN c n = (s', true)) : QuadsMoved c n s s' := by
  induction n generalizing s with
  | zero => cases h; constructor <;> simp [madrAfter]
  | succ n ih =>
    obtain ⟨t, hfirst, hrest⟩ := State.moveN_succ_true h
    obtain ⟨sadr, madr, hchan⟩ := hfirst.chan
    obtain ⟨blk, heng⟩ := hfirst.eng
    have hmoved := ih (s := t) (by simpa [heng] using hm) hrest
    exact {
      madr := by rw [hmoved.madr, madrAfter_eq_of_first hfirst.g (hfirst.madr hm)]
      qwc := by
        rw [hmoved.qwc, hchan, PerChan.get_set_self, Nat.add_comm, BitVec.ofNat_add]
        exact sub_sub _ _ _
      rem := by rw [hmoved.rem, heng, PerChan.get_set_self]; simp only []; omega
      chcr := by rw [hmoved.chcr, hchan, PerChan.get_set_self]
      tadr := by rw [hmoved.tadr, hchan, PerChan.get_set_self]
      asr0 := by rw [hmoved.asr0, hchan, PerChan.get_set_self]
      asr1 := by rw [hmoved.asr1, hchan, PerChan.get_set_self] }

/-- Settles O54: by induction on the number of quadwords, from what one quadword leaves. -/
theorem madrAndQwcAdvanceTogether : Obligations.MadrAndQwcAdvanceTogether := by
  unfold Obligations.MadrAndQwcAdvanceTogether
  refine ⟨fun s c n => ⟨rfl, fun _ h => State.moveN_succ_of_some h n, fun h => State.moveN_succ_of_none h n⟩, ?_⟩
  intro s s' c n hm h
  have hmoved := State.moveN_quadsMoved hm h
  exact ⟨hmoved.madr, fun hring => hmoved.madr.trans (madrAfter_linear hring n), hmoved.qwc, hmoved.rem, hmoved.chcr,
    hmoved.tadr, hmoved.asr0, hmoved.asr1⟩

end Sys2Proof.Machine
end

section
/-!
PROOFS. O12: the run invariant as a fact about one channel at a time, what each operation on a channel makes of it, and the
step.
-/

namespace Sys2Proof.Machine

/-! ### The run invariant of one channel -/

/-- The run invariant of channel `c`, from its registers, its engine, its queued start and its event. -/
structure RunOk (c : Ch) (d : Chan) (e : Engine) (queued : Bool) (ev : Option Nat) : Prop where
  busy : chcrStr d.chcr = false ↔ e.phase = .idle
  queued : queued = true → e.phase = .queued
  event : c.inScope = true → ev ≠ none → e.phase = .completing
  phase : phaseLegal c e.phase
  mode : modeLegal c e.mode
  tags : readsTags e.phase → e.mode = .srcChain ∨ e.mode = .dstChain
  count : e.phase = .transfer ∨ e.phase = .parked →
    d.qwc = BitVec.ofNat 16 e.rem ∧ e.rem ≤ 0x10000 ∧ (e.mode ≠ .normal → e.rem < 0x10000)
  completing : e.phase = .completing → e.rem = 0 ∧ d.qwc = 0 ∧ ev ≠ none

/-- The run invariant at channel `c` of a state. -/
def State.runOk (s : State) (c : Ch) : Prop :=
  RunOk c (s.chan.get c) (s.eng.get c) (s.isQueued c) (s.ev.get c)

/-- The run invariant is that of every channel. -/
theorem State.runInv_iff (s : State) : s.runInv ↔ (s.faults = [] → ∀ c, s.runOk c) := by
  refine imp_congr_right fun _ => ⟨?_, fun h => ⟨?_, ?_, ?_, ?_, ?_, ?_⟩⟩
  · rintro ⟨hbusy, hqueued, hevent, hlegal, hcount, hcompleting⟩ c
    obtain ⟨hphase, hmode, htags⟩ := hlegal c
    exact ⟨hbusy c, fun hq => (hqueued c hq).2, hevent c, hphase, hmode, htags, hcount c, hcompleting c⟩
  · exact fun c => (h c).busy
  · intro c hq
    have hphase := (h c).queued hq
    refine ⟨?_, hphase⟩
    by_contra hstr
    have hidle := (h c).busy.mp (Bool.eq_false_iff.mpr hstr)
    rw [hphase] at hidle
    cases hidle
  · exact fun c => (h c).event
  · exact fun c => ⟨(h c).phase, (h c).mode, (h c).tags⟩
  · exact fun c => (h c).count
  · exact fun c => (h c).completing

/-- The phases of a run under way that has no completion pending (10_state.md R40). -/
def Phase.engaged (p : Phase) : Prop := p = .tagFetch ∨ p = .transfer ∨ p = .stalled ∨ p = .parked

section
variable {c : Ch} {d d' : Chan} {e e' : Engine} {q : Bool} {v : Option Nat}

/-- A busy channel has STR set. -/
theorem RunOk.str (h : RunOk c d e q v) (hp : e.phase ≠ .idle) : chcrStr d.chcr = true := by
  by_contra hstr
  exact hp (h.busy.mp (Bool.eq_false_iff.mpr hstr))

/-- A start is queued in phase Queued only. -/
theorem RunOk.not_queued (h : RunOk c d e q v) (hp : e.phase ≠ .queued) : q = false :=
  Bool.eq_false_iff.mpr fun hq => hp (h.queued hq)

/-- An event of a channel in scope is pending in phase Completing only. -/
theorem RunOk.no_event (h : RunOk c d e q v) (hp : e.phase ≠ .completing) (hc : c.inScope = true) : v = none := by
  by_contra hv
  exact hp (h.event hc hv)

/-- An Idle channel: nothing is queued and no event is pending. -/
theorem RunOk.of_idle (hstr : chcrStr d.chcr = false) (hp : e.phase = .idle) (hmode : modeLegal c e.mode)
    (hq : q = false) (hv : c.inScope = true → v = none) : RunOk c d e q v where
  busy := iff_of_true hstr hp
  queued h := by rw [hq] at h; cases h
  event hc h := absurd (hv hc) h
  phase := by rw [hp]; trivial
  mode := hmode
  tags h := by rw [hp] at h; rcases h with h | h <;> cases h
  count h := by rw [hp] at h; rcases h with h | h <;> cases h
  completing h := by rw [hp] at h; cases h

/-- A channel with a run under way: nothing is queued and no event is pending. -/
theorem RunOk.of_engaged (hp : Phase.engaged e.phase) (hstr : chcrStr d.chcr = true) (hphase : phaseLegal c e.phase)
    (hmode : modeLegal c e.mode) (htags : readsTags e.phase → e.mode = .srcChain ∨ e.mode = .dstChain)
    (hcount : e.phase = .transfer ∨ e.phase = .parked →
      d.qwc = BitVec.ofNat 16 e.rem ∧ e.rem ≤ 0x10000 ∧ (e.mode ≠ .normal → e.rem < 0x10000))
    (hq : q = false) (hv : c.inScope = true → v = none) : RunOk c d e q v where
  busy := by
    rw [hstr]
    refine iff_of_false (fun h => nomatch h) fun h => ?_
    rw [h] at hp
    rcases hp with h | h | h | h <;> cases h
  queued h := by rw [hq] at h; cases h
  event hc h := absurd (hv hc) h
  phase := hphase
  mode := hmode
  tags := htags
  count := hcount
  completing h := by rw [h] at hp; rcases hp with h | h | h | h <;> cases h

/-- What a run under way gives. -/
theorem RunOk.engaged (h : RunOk c d e q v) (hp : Phase.engaged e.phase) :
    chcrStr d.chcr = true ∧ q = false ∧ (c.inScope = true → v = none) := by
  refine ⟨h.str ?_, h.not_queued ?_, h.no_event ?_⟩ <;>
  · intro he
    rw [he] at hp
    rcases hp with hp | hp | hp | hp <;> cases hp

/-- A run under way goes on to phase `p` with the same counts. -/
theorem RunOk.to_phase (h : RunOk c d e q v) (hp : Phase.engaged e.phase) {p : Phase} (hp' : Phase.engaged p)
    (hphase : phaseLegal c p) (htags : readsTags p → e.mode = .srcChain ∨ e.mode = .dstChain)
    (hcount : p = .transfer ∨ p = .parked → e.phase = .transfer ∨ e.phase = .parked) :
    RunOk c d { e with phase := p } q v := by
  obtain ⟨hstr, hq, hv⟩ := h.engaged hp
  exact .of_engaged hp' hstr hphase h.mode htags (fun hc => h.count (hcount hc)) hq hv

/-- A run that has moved everything enters Completing, its event pending (42_channel_engines.md R370). -/
theorem RunOk.to_completing (h : RunOk c d e q v) (hp : e.phase = .transfer) (hrem : e.rem = 0)
    (he : e'.phase = .completing ∧ e'.mode = e.mode ∧ e'.rem = e.rem) (n : Nat) : RunOk c d e' q (some n) := by
  obtain ⟨hp', hmode, hrem'⟩ := he
  obtain ⟨hqwc, -, -⟩ := h.count (.inl hp)
  have hscope : c.inScope = true := by simpa [phaseLegal, hp] using h.phase
  have hq := h.not_queued (by rw [hp]; exact nofun)
  exact {
    busy := by rw [h.str (by rw [hp]; exact nofun), hp']; exact iff_of_false nofun nofun
    queued := fun hq' => by rw [hq] at hq'; cases hq'
    event := fun _ _ => hp'
    phase := by rw [hp']; exact hscope
    mode := by rw [hmode]; exact h.mode
    tags := fun ht => by rw [hp'] at ht; rcases ht with ht | ht <;> cases ht
    count := fun hc => by rw [hp'] at hc; rcases hc with hc | hc <;> cases hc
    completing := fun _ => ⟨hrem'.trans hrem, by rw [hqwc, hrem]; rfl, nofun⟩ }

/-- The engine and the counts after a tag with count `q`: a run under way whose mode reads tags (41_tag_walker.md R261,
R298). -/
theorem RunOk.of_tag (h : RunOk c d e q v)
    (hp : e.phase = .tagFetch) (hstr : chcrStr d'.chcr = chcrStr d.chcr) (hphase : e'.phase = .transfer)
    (hmode : e'.mode = e.mode) {n : BitVec 16} (hqwc : d'.qwc = n) (hrem : e'.rem = n.toNat) : RunOk c d' e' q v := by
  obtain ⟨hstr', hq, hv⟩ := h.engaged (.inl hp)
  have hscope : c.inScope = true := by simpa [phaseLegal, hp] using h.phase
  refine .of_engaged (.inr (.inl hphase)) (hstr.trans hstr') ?legal (by rw [hmode]; exact h.mode) ?tags
    (fun _ => ?count) hq hv
  case legal => rw [hphase]; exact hscope
  case tags => rw [hphase]; rintro (ht | ht) <;> cases ht
  case count =>
    rw [hqwc, hrem]
    exact ⟨by simp, n.isLt.le, fun _ => n.isLt⟩

/-- The invariant speaks of CHCR and QWC only among the registers. -/
theorem RunOk.with_chan (h : RunOk c d e q v) (hchcr : d'.chcr = d.chcr) (hqwc : d'.qwc = d.qwc) :
    RunOk c d' e q v where
  busy := by rw [hchcr]; exact h.busy
  queued := h.queued
  event := h.event
  phase := h.phase
  mode := h.mode
  tags := h.tags
  count := by rw [hqwc]; exact h.count
  completing := by rw [hqwc]; exact h.completing

/-- The counts after one of the quadwords left has moved (41_tag_walker.md R291, 42_channel_engines.md R325). -/
theorem RunOk.of_quad (h : RunOk c d e q v) (hp : e.phase = .transfer) (hrem : 0 < e.rem) (hchcr : d'.chcr = d.chcr)
    (hqwc : d'.qwc = d.qwc - 1) (he : e'.phase = e.phase ∧ e'.mode = e.mode ∧ e'.rem = e.rem - 1) :
    RunOk c d' e' q v := by
  obtain ⟨hphase, hmode, hrem'⟩ := he
  obtain ⟨hstr, hq, hv⟩ := h.engaged (.inr (.inl hp))
  obtain ⟨hagree, hle, hlt⟩ := h.count (.inl hp)
  refine .of_engaged (.inr (.inl (hphase.trans hp))) (by rw [hchcr]; exact hstr) (by rw [hphase]; exact h.phase)
    (by rw [hmode]; exact h.mode) (by rw [hphase, hmode]; exact h.tags) (fun _ => ?count) hq hv
  rw [hqwc, hagree, hrem', hmode]
  refine ⟨?qwc, by omega, fun hn => by have := hlt hn; omega⟩
  obtain ⟨n, hn⟩ : ∃ n, e.rem = n + 1 := ⟨e.rem - 1, by omega⟩
  rw [hn, BitVec.ofNat_add, Nat.add_sub_cancel]
  exact add_sub_cancel_right _ _

/-- A channel 0..2 with its external pump running (10_state.md R40). -/
theorem RunOk.of_external (hc : c.inScope = false) (hp : e.phase = .external) (hstr : chcrStr d.chcr = true)
    (hmode : modeLegal c e.mode) (hq : q = false) : RunOk c d e q v where
  busy := by rw [hstr, hp]; exact iff_of_false nofun nofun
  queued h := by rw [hq] at h; cases h
  event h := by rw [hc] at h; cases h
  phase := by rw [hp]; exact hc
  mode := hmode
  tags h := by rw [hp] at h; rcases h with h | h <;> cases h
  count h := by rw [hp] at h; rcases h with h | h <;> cases h
  completing h := by rw [hp] at h; cases h

/-- The invariant speaks of no event of a channel 0..2. -/
theorem RunOk.with_event (h : RunOk c d e q v) (hc : c.inScope = false) (v' : Option Nat) : RunOk c d e q v' where
  busy := h.busy
  queued := h.queued
  event hc' := by rw [hc] at hc'; cases hc'
  phase := h.phase
  mode := h.mode
  tags := h.tags
  count := h.count
  completing hp := by
    have hlegal := h.phase
    rw [hp] at hlegal
    exact absurd (hc.symm.trans hlegal) Bool.false_ne_true

/-- A busy channel whose start is queued (40_registers.md R216). -/
theorem RunOk.of_queued (hp : e.phase = .queued) (hstr : chcrStr d.chcr = true) (hmode : modeLegal c e.mode)
    (hv : c.inScope = true → v = none) : RunOk c d e q v where
  busy := by rw [hstr, hp]; exact iff_of_false nofun nofun
  queued _ := hp
  event hc h := absurd (hv hc) h
  phase := by rw [hp]; trivial
  mode := hmode
  tags h := by rw [hp] at h; rcases h with h | h <;> cases h
  count h := by rw [hp] at h; rcases h with h | h <;> cases h
  completing h := by rw [hp] at h; cases h

end

/-! ### STR -/

@[simp] theorem chcrStr_withStr (v : Word) (b : Bool) : chcrStr (chcrWithStr v b) = b := by
  cases b <;> simp [chcrStr, chcrWithStr, withBit]

/-- The coercion of MOD at commit leaves STR (40_registers.md R214). -/
@[simp] theorem chcrStr_coerceMod (s : State) (v : Word) : chcrStr (s.coerceMod v) = chcrStr v := by
  unfold State.coerceMod
  split
  · simp [chcrStr, chcrWithMod]
  · rfl

/-- A write of another register leaves CHCR. -/
theorem Chan.write_chcr (d : Chan) {r : ChanReg} (hr : r ≠ .chcr) (v : Word) : (d.write r v).chcr = d.chcr := by
  cases r with
  | chcr => exact absurd rfl hr
  | madr | qwc | tadr | asr0 | asr1 | sadr => rfl

/-! ### A start -/

/-- Only a channel in scope supports a mode (42_channel_engines.md R321). -/
theorem supported_inScope {c : Ch} {m : BitVec 2} (h : supported c m = true) : c.inScope = true := by
  cases c with
  | vif0 | vif1 | gif => cases h
  | ipu0 | ipu1 | sif0 | sif1 | sif2 | spr0 | spr1 => rfl

/-- A start in a supported mode latches a mode the channel can run in (42_channel_engines.md R320). -/
theorem supported_modeLegal {c : Ch} {m : BitVec 2} (h : supported c m = true) : modeLegal c (modeOf c m) := by
  unfold modeOf
  split
  · trivial
  · next hnormal =>
    revert h
    split
    · next hinterleave => subst hinterleave; cases c <;> simp [supported, modeLegal]
    · next hchain =>
      change m ≠ 0#2 at hnormal
      change m ≠ 2#2 at hchain
      cases c <;> simp [supported, modeLegal, hnormal, hchain]

/-- The quadwords of a Normal run: QWC, or 0x10000 for 0 under the quirk (41_tag_walker.md R290). -/
theorem State.normalCount_agrees (s : State) (q : BitVec 16) :
    q = BitVec.ofNat 16 (s.normalCount q) ∧ s.normalCount q ≤ 0x10000 := by
  unfold State.normalCount
  split
  · next h => rw [h.1]; exact ⟨rfl, le_rfl⟩
  · exact ⟨by simp, q.isLt.le⟩

/-- The engine a start leaves on a channel that supports the mode, with STR set, nothing queued and no event pending. -/
theorem State.startedEngine_runOk {s : State} {c : Ch} {q : Bool} {v : Option Nat}
    (hs : supported c (chcrMod (s.chan.get c).chcr) = true) (hstr : s.str c = true) (hq : q = false)
    (hv : c.inScope = true → v = none) : RunOk c (s.chan.get c) (s.startedEngine c) q v := by
  have hscope := supported_inScope hs
  have hmode := supported_modeLegal hs
  have hqwc : (s.chan.get c).qwc = BitVec.ofNat 16 (s.chan.get c).qwc.toNat := by simp
  have hlt := (s.chan.get c).qwc.isLt
  obtain ⟨hnormal, hle⟩ := s.normalCount_agrees (s.chan.get c).qwc
  unfold State.startedEngine
  simp only []
  generalize modeOf c (chcrMod (s.chan.get c).chcr) = m at hmode
  cases m with
  | normal =>
    exact .of_engaged (.inr (.inl rfl)) hstr hscope hmode nofun (fun _ => ⟨hnormal, hle, fun h => absurd rfl h⟩) hq hv
  | interleave =>
    exact .of_engaged (.inr (.inl rfl)) hstr hscope hmode nofun (fun _ => ⟨hqwc, hlt.le, fun _ => hlt⟩) hq hv
  | srcChain | dstChain =>
    simp only []
    split
    · exact .of_engaged (.inr (.inl rfl)) hstr hscope hmode nofun (fun _ => ⟨hqwc, hlt.le, fun _ => hlt⟩) hq hv
    · exact .of_engaged (.inl rfl) hstr hscope hmode (fun _ => by simp) nofun hq hv

end Sys2Proof.Machine
end

section
/-!
PROOFS. O12, continued: the operations on one channel, and the step.
-/

namespace Sys2Proof.Machine

@[simp] theorem State.isQueued_setEv (s : State) (c k : Ch) (v : Option Nat) :
    (s.setEv c v).isQueued k = s.isQueued k := rfl

/-! ### What an operation on one channel leaves of the others -/

/-- Every channel but `c` has its registers, its engine, its queued start and its event as before. -/
def Touches (c : Ch) (s t : State) : Prop :=
  ∀ k, k ≠ c → t.chan.get k = s.chan.get k ∧ t.eng.get k = s.eng.get k ∧ t.isQueued k = s.isQueued k
    ∧ t.ev.get k = s.ev.get k

theorem Touches.trans {c : Ch} {s t u : State} (h1 : Touches c s t) (h2 : Touches c t u) : Touches c s u := by
  intro k hk
  obtain ⟨hchan, heng, hq, hev⟩ := h1 k hk
  obtain ⟨hchan', heng', hq', hev'⟩ := h2 k hk
  exact ⟨hchan'.trans hchan, heng'.trans heng, hq'.trans hq, hev'.trans hev⟩

theorem touches_updChan (s : State) (c : Ch) (f : Chan → Chan) : Touches c s (s.updChan c f) :=
  fun _ hk => ⟨PerChan.get_set_of_ne _ _ hk, rfl, rfl, rfl⟩

theorem touches_updEng (s : State) (c : Ch) (f : Engine → Engine) : Touches c s (s.updEng c f) :=
  fun _ hk => ⟨rfl, PerChan.get_set_of_ne _ _ hk, rfl, rfl⟩

theorem touches_setEv (s : State) (c : Ch) (v : Option Nat) : Touches c s (s.setEv c v) :=
  fun _ hk => ⟨rfl, rfl, rfl, PerChan.get_set_of_ne _ _ hk⟩

theorem touches_setQueued (s : State) (c : Ch) (b : Bool) : Touches c s (s.setQueued c b) :=
  fun _ hk => ⟨rfl, rfl, (s.isQueued_setQueued c _ b).trans (if_neg hk), rfl⟩

theorem touches_hwDmacIrq (s : State) (c : Ch) (b : Nat) : Touches c s (s.hwDmacIrq b) :=
  fun _ _ => ⟨rfl, rfl, rfl, rfl⟩

/-- An operation on no channel. -/
theorem State.runOk_of_eq {s t : State} (h : ∀ k, s.runOk k) (hchan : t.chan = s.chan) (heng : t.eng = s.eng)
    (hqueued : t.queued = s.queued) (hev : t.ev = s.ev) (k : Ch) : t.runOk k := by
  unfold State.runOk State.isQueued
  rw [hchan, heng, hqueued, hev]
  exact h k

/-- An operation on channel `c` keeps the run invariant if it keeps it there. -/
theorem Touches.runOk {c : Ch} {s t : State} (ht : Touches c s t) (h : ∀ k, s.runOk k) (hc : t.runOk c) (k : Ch) :
    t.runOk k := by
  by_cases hk : k = c
  · exact hk ▸ hc
  · obtain ⟨hchan, heng, hq, hev⟩ := ht k hk
    unfold State.runOk
    rw [hchan, heng, hq, hev]
    exact h k

/-! ### How a run ends, and the external pump -/

section
variable {s : State} (h : ∀ k, s.runOk k)
include h

theorem State.busError_runOk (c k : Ch) : (s.busError c).runOk k := by
  have ht : Touches c s (s.busError c) :=
    (touches_hwDmacIrq s c statBeis).trans ((touches_updChan _ c _).trans ((touches_updEng _ c _).trans
      ((touches_setEv _ c _).trans (touches_setQueued _ c _))))
  have hmode := (h c).mode
  refine ht.runOk h (RunOk.of_idle ?str ?phase ?mode ?queued ?ev) k <;>
    simp [State.busError, State.isQueued_setQueued, hmode]

theorem State.forceStop_runOk (c : Ch) {v : Word} (hv : chcrStr v = false) (k : Ch) : (s.forceStop c v).runOk k := by
  have ht : Touches c s (s.forceStop c v) :=
    (touches_updChan s c _).trans ((touches_setEv _ c _).trans
      ((touches_setQueued _ c _).trans (touches_updEng _ c _)))
  have hmode := (h c).mode
  refine ht.runOk h (RunOk.of_idle ?str ?phase ?mode ?queued ?ev) k <;>
    simp [State.forceStop, State.isQueued_setQueued, hmode, hv]

/-- A completion of a channel that is not Queued (60_exceptions.md R606). -/
theorem State.complete_runOk {c : Ch} (hp : (s.eng.get c).phase ≠ .queued) (k : Ch) : (s.complete c).runOk k := by
  have ht : Touches c s (s.complete c) :=
    (touches_setEv s c _).trans ((touches_updChan _ c _).trans
      ((touches_updEng _ c _).trans (touches_hwDmacIrq _ c _)))
  have hmode := (h c).mode
  have hq : (s.complete c).isQueued c = false := (h c).not_queued hp
  refine ht.runOk h (RunOk.of_idle ?str ?phase ?mode hq ?ev) k <;> simp [State.complete, hmode]

theorem State.fireEvent_runOk (c k : Ch) : (s.fireEvent c).runOk k := by
  unfold State.fireEvent
  split
  · exact h k
  · split
    · split
      · next hg => exact s.complete_runOk h (by rw [hg.1]; exact nofun) k
      · exact h k
    · next hscope =>
      split
      · next hp => exact s.complete_runOk h (by rw [hp]; exact nofun) k
      · refine (touches_setEv s c none).runOk h ?_ k
        simpa [State.runOk] using (h c).with_event (by simpa using hscope) none

theorem State.extSchedule_runOk (c : Ch) (d : Nat) (k : Ch) : (s.extSchedule c d).runOk k := by
  unfold State.extSchedule
  split
  · next hg =>
    refine (touches_setEv s c _).runOk h ?_ k
    simpa [State.runOk] using (h c).with_event hg.1 _
  · exact h k

/-- A register write of the external pump leaves STR, and clearing STR makes its channel Idle (log 15). -/
theorem State.extPump_runOk (c : Ch) (op : ExtOp) (k : Ch) : (s.extPump c op).runOk k := by
  unfold State.extPump
  split
  · next hg =>
    obtain ⟨hscope, hp⟩ := hg
    have hstr := (h c).str (by rw [hp]; exact nofun)
    have hq := (h c).not_queued (by rw [hp]; exact nofun)
    have hmode := (h c).mode
    have hwrite (f : Chan → Chan) (hf : chcrStr (f (s.chan.get c)).chcr = true) (k : Ch) :
        (s.updChan c f).runOk k := by
      refine (touches_updChan s c f).runOk h (RunOk.of_external hscope hp ?_ hmode hq) k
      simpa using hf
    split
    · exact hwrite _ (by simpa using hstr) k
    · next r v hr => exact hwrite _ (by rw [Chan.write_chcr _ hr]; exact hstr) k
    · exact s.runOk_of_eq h rfl rfl rfl rfl k
    · refine ((touches_updChan s c _).trans (touches_updEng _ c _)).runOk h
        (RunOk.of_idle ?str ?phase ?mode hq fun hc => ?ev) k
      case ev => rw [hscope] at hc; cases hc
      all_goals simp [hmode]
  · exact h k

end

/-! ### Starts and writes of a channel's registers -/

/-- A start that records no fault, of a channel with STR set, nothing queued and no event pending. -/
theorem State.startChannel_runOk {s : State} {c : Ch} (hstr : s.str c = true) (hq : s.isQueued c = false)
    (hv : c.inScope = true → s.ev.get c = none) (hmode : modeLegal c (s.eng.get c).mode)
    (hf : (s.startChannel c).faults = []) : (s.startChannel c).runOk c := by
  rw [State.startChannel_eq] at hf ⊢
  split at hf
  · exact absurd hf (State.addFault_faults_ne _ _)
  · next hstart =>
    rw [if_neg hstart]
    unfold State.runOk
    rw [State.updEng_eng, PerChan.get_set_self]
    by_cases hc : c.inScope = true
    · rw [if_pos hc]
      refine State.startedEngine_runOk ?_ hstr hq hv
      simpa [startFaults, hc] using hstart
    · rw [if_neg hc]
      exact .of_external (by simpa using hc) rfl hstr hmode hq

theorem touches_startChannel (s : State) (c : Ch) : Touches c s (s.startChannel c) :=
  fun k hk => ⟨by simp, s.startChannel_eng_of_ne hk, by simp, by simp⟩

/-- An operation on channel `c` that ends with its start. -/
theorem Touches.startChannel_runOk {s t : State} {c : Ch} (ht : Touches c s t) (h : ∀ k, s.runOk k)
    (hstr : t.str c = true) (hq : t.isQueued c = false) (hv : c.inScope = true → t.ev.get c = none)
    (hmode : modeLegal c (t.eng.get c).mode) (hf : (t.startChannel c).faults = []) (k : Ch) :
    (t.startChannel c).runOk k :=
  (ht.trans (touches_startChannel t c)).runOk h (State.startChannel_runOk hstr hq hv hmode hf) k

/-- An operation on channel `c` that ends with the queueing of its start. -/
theorem Touches.queueChannel_runOk {s t : State} {c : Ch} (ht : Touches c s t) (h : ∀ k, s.runOk k)
    (hstr : t.str c = true) (hv : c.inScope = true → t.ev.get c = none) (hmode : modeLegal c (t.eng.get c).mode)
    (k : Ch) : (t.queueChannel c).runOk k := by
  have hqueue : Touches c t (t.queueChannel c) := (touches_setQueued t c true).trans (touches_updEng _ c _)
  refine (ht.trans hqueue).runOk h ?_ k
  have heng : (t.queueChannel c).eng.get c = { t.eng.get c with phase := .queued } := by simp [State.queueChannel]
  unfold State.runOk
  rw [heng]
  exact .of_queued rfl hstr hmode hv

/-- A write of CHCR (40_registers.md R210 to R216): a busy channel goes on or is stopped, an Idle one starts, is queued, or
stays Idle. -/
theorem State.dmaExec_runOk {s : State} (h : ∀ k, s.runOk k) (c : Ch) (v : Word)
    (hf : (s.dmaExec c v).faults = []) (k : Ch) : (s.dmaExec c v).runOk k := by
  unfold State.dmaExec at hf ⊢
  split at hf
  · next hbusy =>
    rw [if_pos hbusy]
    split
    · exact h k
    · next hv => exact s.forceStop_runOk h c (by simpa using hv) k
  · next hbusy =>
    rw [if_neg hbusy]
    have hidle : (s.eng.get c).phase = .idle := (h c).busy.mp (by simpa [State.str] using hbusy)
    have hq := (h c).not_queued (by rw [hidle]; exact nofun)
    have hev := (h c).no_event (by rw [hidle]; exact nofun)
    have hmode := (h c).mode
    split at hf
    · next hv =>
      rw [if_pos hv]
      simp only [] at hf ⊢
      have hstr : (s.updChan c fun d => { d with chcr := s.coerceMod v }).str c = true := by simp [State.str, hv]
      split at hf
      · next hr =>
        rw [if_pos hr]
        exact (touches_updChan s c _).startChannel_runOk h hstr hq hev hmode hf k
      · next hr =>
        rw [if_neg hr]
        exact (touches_updChan s c _).queueChannel_runOk h hstr hev hmode k
    · next hv =>
      rw [if_neg hv]
      refine (touches_updChan s c _).runOk h (RunOk.of_idle ?_ hidle hmode hq hev) k
      simpa using hv

theorem State.chanWrite_runOk {s : State} (h : ∀ k, s.runOk k) (c : Ch) (r : ChanReg) (v : Word)
    (hf : (s.chanWrite c r v).faults = []) (k : Ch) : (s.chanWrite c r v).runOk k := by
  unfold State.chanWrite at hf ⊢
  split
  · exact State.dmaExec_runOk h c v hf k
  · next r hr =>
    unfold State.chanRegWrite
    split
    · exact h k
    · next hbusy =>
      have hstr : chcrStr (s.chan.get c).chcr = false := by simpa [State.str] using hbusy
      have hidle := (h c).busy.mp hstr
      refine (touches_updChan s c _).runOk h (RunOk.of_idle ?_ hidle (h c).mode
        ((h c).not_queued (by rw [hidle]; exact nofun)) ((h c).no_event (by rw [hidle]; exact nofun))) k
      rw [State.updChan_chan, PerChan.get_set_self, Chan.write_chcr _ hr]
      exact hstr

/-- The drain of one channel: a queued channel is in phase Queued and starts (40_registers.md R245). -/
theorem State.drainOne_runInv {s : State} (h : s.runInv) (c : Ch) : (s.drainOne c).runInv := by
  cases hd : s.drains c
  · rw [State.drainOne_of_not_drains hd]; exact h
  · rw [State.runInv_iff] at h ⊢
    intro hf k
    have hfaults : s.faults = [] := List.eq_nil_iff_forall_not_mem.mpr fun x hx =>
      List.eq_nil_iff_forall_not_mem.mp hf x (s.mem_drainOne_faults c hx)
    have hok := h hfaults
    simp only [State.drains, Bool.and_eq_true] at hd
    obtain ⟨⟨hqueued, hstr⟩, hr⟩ := hd
    have hp := (hok c).queued hqueued
    rw [State.drainOne_of_drains (by simp [State.drains, hqueued, hstr, hr])] at hf ⊢
    exact (touches_setQueued s c false).startChannel_runOk hok hstr (by simp [State.isQueued_setQueued])
      ((hok c).no_event (by rw [hp]; exact nofun)) (hok c).mode hf k

theorem State.drainQueued_runInv {s : State} (h : s.runInv) : s.drainQueued.runInv :=
  List.foldlRecOn Ch.all State.drainOne h fun _ ht c _ => State.drainOne_runInv ht c

/-- The run invariant speaks of no global register. -/
theorem State.setG_runInv {s : State} (h : s.runInv) (g : Globals) : (s.setG g).runInv := h

theorem State.globalWrite_runInv {s : State} (h : s.runInv) (r : GlobalReg) (v : Word) : (s.globalWrite r v).runInv := by
  obtain ⟨g, -, he | he⟩ := s.globalWrite_setG r v
  · rw [he]; exact State.setG_runInv h g
  · rw [he]; exact State.drainQueued_runInv (State.setG_runInv h g)

/-- A host access of a machine without a fault record keeps the run invariant. -/
theorem HostEffect.runInv {s s' : State} (he : HostEffect s s') (hfaults : s.faults = []) (h : s.runInv) :
    s'.runInv := by
  cases he with
  | env => exact h
  | refused => exact h
  | memWrite => exact h
  | genWrite => exact h
  | globalWrite r v => exact State.globalWrite_runInv h r v
  | chanWrite c r v =>
    rw [State.runInv_iff] at h ⊢
    exact State.chanWrite_runOk (h hfaults) c r v

/-! ### Tags -/

/-- A rule leaves QWC of its channel. -/
theorem SrcRule.qwc {id : BitVec 3} {rule : IdRule} (h : SrcRule id rule) (k : Ch) (T : Word) (t : Tag) (s : State) :
    ((rule k T t s).1.chan.get k).qwc = (s.chan.get k).qwc := by
  cases h with
  | call => unfold ruleCall; split <;> simp
  | ret => unfold ruleRet; split <;> simp [State.draw]
  | refe | cnt | next | ref | refs | last => simp [ruleRefe, ruleCnt, ruleNext, ruleRef, ruleEnd]

theorem SrcRule.touches {id : BitVec 3} {rule : IdRule} (h : SrcRule id rule) (c : Ch) (T : Word) (t : Tag) (s : State) :
    Touches c s (rule c T t s).1 := by
  have hframe := h.updates c T t s
  intro k hk
  refine ⟨h.chan_of_ne hk T t s, ?_⟩
  rw [hframe]
  exact ⟨rfl, rfl, rfl⟩

theorem touches_tteAction (s : State) (c : SrcCh) (q : Quad) : Touches c.toCh s (s.tteAction c q) := by
  intro k hk
  refine ⟨?_, by simp, by simp [State.isQueued], by simp⟩
  rw [State.tteAction_chan]
  split
  · next htte => obtain ⟨-, rfl⟩ := htte; exact PerChan.get_set_of_ne _ _ hk
  · rfl

/-- Sending a tag leaves STR and QWC of its channel. -/
theorem State.tteAction_chan_self (s : State) (c : SrcCh) (q : Quad) :
    ((s.tteAction c q).chan.get c.toCh).chcr = (s.chan.get c.toCh).chcr
      ∧ ((s.tteAction c q).chan.get c.toCh).qwc = (s.chan.get c.toCh).qwc := by
  rw [State.tteAction_chan]
  split
  · next htte => obtain ⟨-, rfl⟩ := htte; simp [SrcCh.toCh]
  · exact ⟨rfl, rfl⟩

theorem touches_takeSrcTag (s : State) (c : SrcCh) (id : BitVec 3) (t : Tag) {rule : IdRule} (h : SrcRule id rule) :
    Touches c.toCh s (s.takeSrcTag c id t rule) :=
  (touches_updChan s c.toCh _).trans ((h.touches c.toCh _ t _).trans ((touches_updEng _ c.toCh _).trans
    ((touches_tteAction _ c _).trans (touches_updEng _ c.toCh _))))

/-- What a source tag leaves of its channel that the run invariant speaks of (41_tag_walker.md R261). -/
theorem State.takeSrcTag_run (s : State) (c : SrcCh) (id : BitVec 3) (t : Tag) {rule : IdRule} (h : SrcRule id rule) :
    let s' := s.takeSrcTag c id t rule
    chcrStr (s'.chan.get c.toCh).chcr = chcrStr (s.chan.get c.toCh).chcr ∧ (s'.chan.get c.toCh).qwc = t.qwc
      ∧ (s'.eng.get c.toCh).phase = .transfer ∧ (s'.eng.get c.toCh).mode = (s.eng.get c.toCh).mode
      ∧ (s'.eng.get c.toCh).rem = t.qwc.toNat ∧ s'.queued = s.queued ∧ s'.ev = s.ev := by
  generalize hs1 : (s.updChan c.toCh fun d =>
    { d with chcr := chcrWithTag d.chcr (t.tagH id), qwc := t.qwc, madr := t.a }) = s1
  obtain ⟨-, -, hstr, -⟩ := h.chcr c.toCh (s.chan.get c.toCh).tadr t s1
  have hqwc := h.qwc c.toCh (s.chan.get c.toCh).tadr t s1
  have hframe := h.updates c.toCh (s.chan.get c.toCh).tadr t s1
  have heng := congrArg State.eng hframe
  have hqueued := congrArg State.queued hframe
  have hev := congrArg State.ev hframe
  simp only [State.takeSrcTag, hs1, State.updEng_chan, State.updEng_eng, State.updEng_queued, State.updEng_ev,
    State.tteAction_chan_self, State.tteAction_eng, State.tteAction_queued, State.tteAction_ev, PerChan.get_set_self,
    hstr, hqwc, heng, hqueued, hev]
  subst hs1
  simp

/-- A source tag is taken in phase TagFetch. -/
theorem State.takeSrcTag_runOk {s : State} (h : ∀ k, s.runOk k) {c : SrcCh} (hp : (s.eng.get c.toCh).phase = .tagFetch)
    (id : BitVec 3) (t : Tag) {rule : IdRule} (hrule : SrcRule id rule) (k : Ch) : (s.takeSrcTag c id t rule).runOk k := by
  obtain ⟨hstr, hqwc, hphase, hmode, hrem, hqueued, hev⟩ := s.takeSrcTag_run c id t hrule
  refine (touches_takeSrcTag s c id t hrule).runOk h ?_ k
  unfold State.runOk State.isQueued
  rw [hqueued, hev]
  exact (h c.toCh).of_tag hp hstr hphase hmode hqwc hrem

/-- A destination tag is taken in phase TagFetch. -/
theorem State.takeDstTag_runOk {s : State} (h : ∀ k, s.runOk k) {c : DstCh} (hp : (s.eng.get c.toCh).phase = .tagFetch)
    (id : BitVec 3) (t : Tag) (last cnts : Bool) (k : Ch) : (s.takeDstTag c id t last cnts).runOk k := by
  have ht : Touches c.toCh s (s.takeDstTag c id t last cnts) :=
    (touches_updChan s c.toCh _).trans (touches_updEng _ c.toCh _)
  refine ht.runOk h ((h c.toCh).of_tag hp ?_ ?_ ?_ ?_ ?_ (n := t.qwc)) k <;> simp [State.takeDstTag]

/-- SIF1 stalls on a tag it has fetched (41_tag_walker.md R295). -/
theorem State.stallEnter_runOk {s : State} (h : ∀ k, s.runOk k) (hp : (s.eng.get .sif1).phase = .tagFetch)
    (k : Ch) : (s.stallEnter .sif1).runOk k := by
  refine ((touches_hwDmacIrq s .sif1 statSis).trans (touches_updEng _ .sif1 _)).runOk h ?_ k
  exact (h .sif1).to_phase (p := .stalled) (.inl hp) (.inr (.inr (.inl rfl))) rfl
    (fun _ => (h .sif1).tags (.inl hp)) (by rintro (hc | hc) <;> cases hc)

/-- An instruction read by the engine of a channel in phase TagFetch. -/
theorem ExecEffect.runOk_of_srcTag {s s' : State} {c : SrcCh} (he : ExecEffect s (.srcTag c) s') (h : ∀ k, s.runOk k)
    (hp : (s.eng.get c.toCh).phase = .tagFetch) (k : Ch) : s'.runOk k := by
  cases he with
  | host hport => cases hport
  | srcTag _ id t _ hrule => exact State.takeSrcTag_runOk h hp id t hrule k
  | srcStall => exact State.stallEnter_runOk h hp k

theorem ExecEffect.runOk_of_dstTag {s s' : State} {c : DstCh} (he : ExecEffect s (.dstTag c) s') (h : ∀ k, s.runOk k)
    (hp : (s.eng.get c.toCh).phase = .tagFetch) (k : Ch) : s'.runOk k := by
  cases he with
  | host hport => cases hport
  | dstTag _ id t last cnts => exact State.takeDstTag_runOk h hp id t last cnts k

/-! ### Transfer steps -/

theorem QuadMoved.touches {c : Ch} {s t : State} (hm : QuadMoved c s t) : Touches c s t := by
  obtain ⟨_, _, hchan⟩ := hm.chan
  obtain ⟨_, heng⟩ := hm.eng
  intro k hk
  unfold State.isQueued
  rw [hchan, heng, hm.queued, hm.ev]
  exact ⟨PerChan.get_set_of_ne _ _ hk, PerChan.get_set_of_ne _ _ hk, rfl, rfl⟩

/-- One of the quadwords left moves. -/
theorem QuadMoved.runOk {c : Ch} {s t : State} (hm : QuadMoved c s t) (h : ∀ k, s.runOk k)
    (hp : (s.eng.get c).phase = .transfer) (hrem : 0 < (s.eng.get c).rem) (k : Ch) : t.runOk k := by
  obtain ⟨_, _, hchan⟩ := hm.chan
  obtain ⟨_, heng⟩ := hm.eng
  refine hm.touches.runOk h ?_ k
  unfold State.runOk State.isQueued
  rw [hchan, heng, hm.queued, hm.ev, PerChan.get_set_self, PerChan.get_set_self]
  exact (h c).of_quad hp hrem rfl rfl ⟨rfl, rfl, rfl⟩

/-- The moves of a step, no more than are left: the engine stays in phase Transfer, unless a bus error stops it. -/
theorem State.moveN_runOk {s : State} (h : ∀ k, s.runOk k) {c : Ch} (hp : (s.eng.get c).phase = .transfer) {n : Nat}
    (hn : n ≤ (s.eng.get c).rem) :
    (∀ k, (s.moveN c n).1.runOk k)
      ∧ ((s.moveN c n).2 = true → ((s.moveN c n).1.eng.get c).phase = .transfer) := by
  induction n generalizing s with
  | zero => exact ⟨h, fun _ => hp⟩
  | succ n ih =>
    cases hmove : s.moveOne c with
    | none =>
      rw [State.moveN_succ_of_none hmove, ← State.busError_eq_halted]
      exact ⟨s.busError_runOk h c, nofun⟩
    | some s1 =>
      rw [State.moveN_succ_of_some hmove]
      have hm := State.moveOne_quadMoved hmove
      obtain ⟨_, heng⟩ := hm.eng
      refine ih (hm.runOk h hp (by omega)) ?_ ?_
      · rw [heng, PerChan.get_set_self]; exact hp
      · rw [heng, PerChan.get_set_self]; simp only []; omega

/-- The end of a unit that has moved everything (42_channel_engines.md R329, R370, 43_fifo_sif.md R414). -/
theorem State.endUnit_runOk {s : State} (h : ∀ k, s.runOk k) {c : Ch} (hp : (s.eng.get c).phase = .transfer)
    (hrem : (s.eng.get c).rem = 0) (k : Ch) : (s.endUnit c).runOk k := by
  have hcompletes {f : Engine → Engine} (n : Nat)
      (hf : (f (s.eng.get c)).phase = .completing ∧ (f (s.eng.get c)).mode = (s.eng.get c).mode
        ∧ (f (s.eng.get c)).rem = (s.eng.get c).rem) :
      ((s.updEng c f).setEv c (some n)).runOk k := by
    refine ((touches_updEng s c f).trans (touches_setEv _ c _)).runOk h ?_ k
    unfold State.runOk
    rw [State.setEv_eng, State.setEv_ev, State.updEng_eng, PerChan.get_set_self, PerChan.get_set_self]
    exact (h c).to_completing hp hrem hf n
  unfold State.endUnit
  simp only []
  split
  · split
    · exact hcompletes _ ⟨rfl, rfl, rfl⟩
    · exact hcompletes _ ⟨rfl, rfl, rfl⟩
  · next hmode =>
    refine (touches_updEng s c _).runOk h ?_ k
    unfold State.runOk
    rw [State.updEng_eng, PerChan.get_set_self]
    refine (h c).to_phase (p := .tagFetch) (.inr (.inl hp)) (.inl rfl) ?_ (fun _ => ?_) (by rintro (hc | hc) <;> cases hc)
    · simpa [phaseLegal, hp] using (h c).phase
    · cases hm : (s.eng.get c).mode <;> simp [hm] at hmode ⊢

/-- The cycles of a step and STADR are not of the run invariant. -/
theorem State.stallSrcUpdate_addCycles_runOk {s : State} (h : ∀ k, s.runOk k) (c : Ch) (n : Nat) (k : Ch) :
    ((s.stallSrcUpdate c).addCycles c n).runOk k := by
  have hstall : ∀ k, (s.stallSrcUpdate c).runOk k := s.runOk_of_eq h (by simp) (by simp) (by simp) (by simp)
  refine (touches_updEng _ c _).runOk hstall ?_ k
  obtain ⟨hbusy, hqueued, hevent, hphase, hmode, htags, hcount, hcompleting⟩ := hstall c
  unfold State.runOk
  rw [State.updEng_eng, PerChan.get_set_self]
  exact ⟨hbusy, hqueued, hevent, hphase, hmode, htags, hcount, hcompleting⟩

theorem State.transferStep_runOk {s : State} (h : ∀ k, s.runOk k) {c : Ch} (hp : (s.eng.get c).phase = .transfer)
    {n : Nat} (hn : n ≤ (s.eng.get c).rem) (k : Ch) : (s.transferStep c n).runOk k := by
  obtain ⟨hmoved, htransfer⟩ := State.moveN_runOk h hp hn
  unfold State.transferStep
  split
  · next s1 hs1 => rw [hs1] at hmoved; exact hmoved k
  · next s1 hs1 =>
    rw [hs1] at hmoved htransfer
    have hcounted := State.stallSrcUpdate_addCycles_runOk hmoved c n
    simp only []
    split
    · next hrem =>
      refine State.endUnit_runOk hcounted ?_ hrem k
      simpa [State.addCycles] using htransfer rfl
    · exact hcounted k

/-- A step moves no more quadwords than are left (42_channel_engines.md R325). -/
theorem State.bound_le_rem (s : State) (c : Ch) : s.bound c ≤ (s.eng.get c).rem := by
  have hblock : (if (s.eng.get c).mode = .interleave ∧ sqwcTq s.g.sqwc ≠ 0 then
      min (s.eng.get c).rem (sqwcTq s.g.sqwc - (s.eng.get c).blk) else (s.eng.get c).rem) ≤ (s.eng.get c).rem := by
    split
    · exact Nat.min_le_left ..
    · exact le_rfl
  unfold State.bound
  simp only []
  split
  · exact (Nat.min_le_left ..).trans hblock
  · exact hblock

theorem chunk_le {n b : Nat} (hb : b ≠ 0) : chunk n b ≤ b := by
  unfold chunk
  omega

theorem State.transferPhase_runOk {s : State} (h : ∀ k, s.runOk k) {c : Ch} (hp : (s.eng.get c).phase = .transfer)
    (n : Nat) (k : Ch) : (s.transferPhase c n).runOk k := by
  unfold State.transferPhase
  split
  · next hrem => exact State.endUnit_runOk h hp hrem k
  · split
    · split
      · next hc =>
        refine (touches_updEng s c _).runOk h ?_ k
        unfold State.runOk
        rw [State.updEng_eng, PerChan.get_set_self]
        exact (h c).to_phase (p := .parked) (.inr (.inl hp)) (.inr (.inr (.inr rfl))) hc
          (by rintro (ht | ht) <;> cases ht) fun _ => .inl hp
      · exact h k
    · next hb => exact State.transferStep_runOk h hp ((chunk_le hb).trans (s.bound_le_rem c)) k

/-! ### The step -/

/-- An engine that is parked or stalled goes back to phase `p`. -/
theorem State.updEng_phase_runOk {s : State} (h : ∀ k, s.runOk k) {c : Ch} {p : Phase}
    (hc : RunOk c (s.chan.get c) { s.eng.get c with phase := p } (s.isQueued c) (s.ev.get c)) (k : Ch) :
    (s.updEng c fun e => { e with phase := p }).runOk k := by
  refine (touches_updEng s c _).runOk h ?_ k
  unfold State.runOk
  rw [State.updEng_eng, PerChan.get_set_self]
  exact hc

theorem State.refetch_runOk {s : State} (h : ∀ k, s.runOk k) {c : Ch} (hp : (s.eng.get c).phase = .stalled) (k : Ch) :
    (s.updEng c fun e => { e with phase := .tagFetch }).runOk k := by
  have hc : c = .sif1 := by simpa [phaseLegal, hp] using (h c).phase
  exact State.updEng_phase_runOk h ((h c).to_phase (p := .tagFetch) (.inr (.inr (.inl hp))) (.inl rfl)
    (by rw [hc]; rfl) (fun _ => (h c).tags (.inr hp)) (by rintro (ht | ht) <;> cases ht)) k

theorem State.wake_runOk {s : State} (h : ∀ k, s.runOk k) {c : Ch} (hp : (s.eng.get c).phase = .parked) (k : Ch) :
    (s.updEng c fun e => { e with phase := .transfer }).runOk k := by
  have hc : c = .ipu0 ∨ c = .ipu1 := by simpa [phaseLegal, hp] using (h c).phase
  exact State.updEng_phase_runOk h ((h c).to_phase (p := .transfer) (.inr (.inr (.inr hp))) (.inr (.inl rfl))
    (by rcases hc with rfl | rfl <;> rfl) (by rintro (ht | ht) <;> cases ht) fun _ => .inr hp) k

/-- SPR0's tag read advances SADR only. -/
theorem State.advanceSadr_runOk {s : State} (h : ∀ k, s.runOk k) (c k : Ch) : (s.advanceSadr c).runOk k := by
  refine (touches_updChan s c _).runOk h ?_ k
  unfold State.runOk
  rw [State.updChan_chan, PerChan.get_set_self]
  exact (h c).with_chan rfl rfl

theorem State.resetBlock_runOk (s : State) (k : Ch) : s.resetBlock.runOk k := by
  have hidle : s.resetBlock.eng.get k = Engine.reset := PerChan.get_all _ k
  unfold State.runOk
  rw [hidle]
  refine .of_idle ?str rfl trivial ?queued fun _ => PerChan.get_all _ k
  case str => exact congrArg (fun d => chcrStr (Chan.chcr d)) (PerChan.get_all Chan.reset k)
  case queued => exact BitVec.getLsbD_zero

/-- Every form of a step keeps the run invariant. -/
theorem StepForm.runInv {s s' : State} {a : Action} (hs : StepForm s a s') (hfaults : s.faults = []) (hinv : s.runInv) :
    s'.runInv := by
  have h : ∀ k, s.runOk k := s.runInv_iff.mp hinv hfaults
  have hok {t : State} (ht : ∀ k, t.runOk k) : t.runInv := t.runInv_iff.mpr fun _ => ht
  have hframe {t : State} (hchan : t.chan = s.chan) (heng : t.eng = s.eng) (hqueued : t.queued = s.queued)
      (hev : t.ev = s.ev) : t.runInv := hok (s.runOk_of_eq h hchan heng hqueued hev)
  cases hs with
  | held => exact hinv
  | refused => exact hinv
  | host _ _ _ ha he => exact (StepForm.hostEffect ha he).runInv hfaults hinv
  | interpLoad _ _ _ _ _ he => exact (interpLoad_hostEffect he).runInv hfaults hinv
  | interpStore _ _ _ _ _ he => exact (interpStore_hostEffect he).runInv hfaults hinv
  | tagBusError c => exact hok (s.busError_runOk h _)
  | srcTag c _ _ _ _ _ hp _ _ _ hi he => exact hok ((hi ▸ exec_effect he).runOk_of_srcTag h hp)
  | dstTagSif0 _ _ _ _ hp _ _ hi he =>
    exact hok ((hi ▸ exec_effect he).runOk_of_dstTag
      (s.runOk_of_eq h (by simp) (by simp) (by simp) (by simp)) (by simpa [DstCh.toCh] using hp))
  | dstTagSpr0 _ _ _ _ hp _ hi he =>
    exact hok ((hi ▸ exec_effect he).runOk_of_dstTag (State.advanceSadr_runOk h _) hp)
  | transfer c n _ hp => exact hok (State.transferPhase_runOk h hp n)
  | refetch c _ _ hp => exact hok (State.refetch_runOk h hp)
  | wake c _ _ hp => exact hok (State.wake_runOk h hp)
  | fire c => exact hok (s.fireEvent_runOk h c)
  | extPump c op => exact hok (s.extPump_runOk h c op)
  | extSchedule c d => exact hok (s.extSchedule_runOk h c d)
  | reset => exact hok s.resetBlock_runOk
  | iopTagSif0 _ _ _ _ _ _ _ _ he | iopTagSif1 _ _ _ _ _ _ _ _ he =>
    cases he
    exact hframe (by simp) (by simp) (by simp) (by simp)
  | vtlbInit | iopPushData | iopPopData | iopPushJunk | iopPopJunk | iopEnd | fireIop | iopStart | ipuPush | ipuPop
  | ipuRequest | mfifoEmpty | mmuMap | iopCpuStore => exact hframe (by simp) (by simp) (by simp) (by simp)

/-- Settles O12: each form of a step keeps the invariant of the channel it acts on, and leaves the others'. -/
theorem stepKeepsRunInvariant : Obligations.StepKeepsRunInvariant := by
  unfold Obligations.StepKeepsRunInvariant
  intro s s' hinv hs
  obtain ⟨hfaults, -, hform⟩ := step_form hs
  obtain ⟨e, -, -, he⟩ := s.nextAction_env
  rw [he] at hform
  exact hform.runInv hfaults hinv

end Sys2Proof.Machine
end

section
/-!
PROOFS. O7 and O8: the fields of the reset state, the invariants it meets, and that no agent has a step in it.
-/

namespace Sys2Proof.Machine
open Sys2Proof.Claims

/-- Settles O7: `State.reset` has the same value at every channel and every SIF channel, and lists no cell and no page. -/
theorem resetValues : Obligations.ResetValues := by
  unfold Obligations.ResetValues
  exact ⟨PerChan.get_all _, rfl, fun _ => rfl, PerChan.get_all _, rfl, PerChan.get_all _, PerSif.get_all _, rfl, rfl, rfl,
    rfl, rfl, fun _ => rfl, rfl, rfl⟩

theorem reset_memoryCanonical : State.reset.memoryCanonical :=
  (State.memoryCanonical_iff _).mpr
    ⟨State.reset_mem_wf, ⟨List.Pairwise.nil, fun _ hc => nomatch hc⟩, List.Pairwise.nil⟩

theorem reset_fifosBounded : State.reset.fifosBounded := State.reset.resetBlock_fifosBounded

theorem reset_runInv : State.reset.runInv :=
  State.reset.runInv_iff.mpr fun _ => State.reset.resetBlock_runOk

/-- With DMAE 0 no engine has a step (42_channel_engines.md R326). -/
theorem reset_engine_not_enabled (c : Ch) (n : Nat) : ¬ State.reset.enabled (.engine c n) := by
  have hrun : ¬ (withAgenda State.reset []).dmacRunnable = true := by decide
  refine not_not_intro ?_
  calc State.reset.act (.engine c n)
    _ = ((withAgenda State.reset []).engineMove c n).result := step_withAgenda_cons ⟨rfl, rfl⟩ _ []
    _ = (hold (withAgenda State.reset [])).result := congrArg Move.result (if_neg hrun)

/-- No IOP half is busy (43_fifo_sif.md R411). -/
theorem reset_iopHalf_not_enabled (f : Sif) (n : Nat) : ¬ State.reset.enabled (.iopHalf f n) := by
  cases f <;> exact not_not_intro rfl

theorem reset_quiescent : State.reset.quiescent := by
  refine ⟨fun c => ⟨reset_engine_not_enabled c 1, PerChan.get_all _ c⟩, fun f => ⟨reset_iopHalf_not_enabled f 1, ?_⟩⟩
  exact congrArg SifChan.iopEv (PerSif.get_all SifChan.reset f)

/-- Settles O8, invariant by invariant. -/
theorem resetMeetsTheInvariants : Obligations.ResetMeetsTheInvariants := by
  unfold Obligations.ResetMeetsTheInvariants
  exact ⟨reset_memoryCanonical, reset_fifosBounded, reset_runInv, .inl ⟨rfl, rfl, rfl, rfl⟩, rfl,
    (by decide : (0 : Word).extractLsb' 10 3 = 0), (by decide : Params.default.valid), ⟨rfl, rfl⟩, reset_quiescent⟩

end Sys2Proof.Machine
end

section
/-!
PROOFS. O19: what an engine's step leaves unchanged, composed from the frames of the operations it runs, and what the
external pump can do.
-/

namespace Sys2Proof.Machine
open Sys2Proof.Claims

/-! ### Actions -/

/-- Whether an action is one of the host's accesses that are decoded (40_registers.md R200, R201, 44_vtlb.md R491). -/
def Action.isHost : Action → Bool
  | .hostWrite .. | .hostRead .. | .dispatch .. => true
  | _ => false

theorem Action.isHost_of_host {a : Action} {i : Instr}
    (ha : (∃ x v, a = .hostWrite .w32 x v ∧ i.port = .mmioWrite
        ∧ decode .mmioWrite (encodeWrite x (v.setWidth 32)) = .ok i) ∨
      (∃ x, a = .hostRead .w32 x ∧ i.port = .mmioRead ∧ decode .mmioRead (encodeRead x) = .ok i) ∨
      (∃ sel va v, a = .dispatch sel va v ∧ i.port = .dispatch ∧ decode .dispatch (encodeDispatch sel va v) = .ok i)) :
    Action.isHost a = true := by
  obtain ⟨_, _, rfl, -⟩ | ⟨_, rfl, -⟩ | ⟨_, _, _, rfl, -⟩ := ha <;> rfl

theorem Action.isHost_of_refused {a : Action} (ha : (∃ w x v, a = .hostWrite w x v) ∨ (∃ w x, a = .hostRead w x) ∨
    ∃ sel va v, a = .dispatch sel va v) : Action.isHost a = true := by
  obtain ⟨_, _, _, rfl⟩ | ⟨_, _, rfl⟩ | ⟨_, _, _, rfl⟩ := ha <;> rfl

/-- The form of a step, from the state with only the model's own fields changed. -/
theorem step_form_withEnv {s s' : State} (h : step s = .next s') :
    ∃ e : Env, StepForm { s with env := e } s.head s' := by
  obtain ⟨-, -, hform⟩ := step_form h
  obtain ⟨e, -, -, he⟩ := s.nextAction_env
  exact ⟨e, he ▸ hform⟩

/-! ### The SIF channels -/

/-- Of the SIF channels nothing differs but the FIFO of channel `c`. -/
def OnlyFifoOf (c : Ch) (x y : PerSif SifChan) : Prop :=
  ∀ f, y.get f = { x.get f with fifo := (y.get f).fifo } ∧ (f.toCh ≠ c → (y.get f).fifo = (x.get f).fifo)

theorem OnlyFifoOf.refl (c : Ch) (x : PerSif SifChan) : OnlyFifoOf c x x := fun _ => ⟨rfl, fun _ => rfl⟩

theorem OnlyFifoOf.trans {c : Ch} {x y z : PerSif SifChan} (h1 : OnlyFifoOf c x y) (h2 : OnlyFifoOf c y z) :
    OnlyFifoOf c x z := by
  intro f
  obtain ⟨hchan, hfifo⟩ := h1 f
  obtain ⟨hchan', hfifo'⟩ := h2 f
  refine ⟨?_, fun hf => (hfifo' hf).trans (hfifo hf)⟩
  rw [hchan', hchan]

theorem onlyFifoOf_set (x : PerSif SifChan) (f : Sif) (ws : List Word) :
    OnlyFifoOf f.toCh x (x.set f { x.get f with fifo := ws }) := by
  intro k
  by_cases hk : k = f
  · subst hk
    rw [PerSif.get_set_self]
    exact ⟨rfl, fun hne => absurd rfl hne⟩
  · rw [PerSif.get_set_of_ne _ _ hk]
    exact ⟨rfl, fun _ => rfl⟩

theorem State.sifPush_onlyFifoOf (s : State) (f : Sif) (ws : List Word) :
    OnlyFifoOf f.toCh s.sif (s.sifPush f ws).sif := by
  unfold State.sifPush
  split
  · exact .refl _ _
  · exact onlyFifoOf_set _ f _

theorem State.sifPop_onlyFifoOf (s : State) (f : Sif) (n : Nat) : OnlyFifoOf f.toCh s.sif (s.sifPop f n).2.sif := by
  unfold State.sifPop
  split
  · exact .refl _ _
  · exact onlyFifoOf_set _ f _

theorem State.moveToMemory_onlyFifoOf {s s' : State} {c : Ch} {take : State → Quad × State}
    (ht : OnlyFifoOf c s.sif (take s).2.sif) (h : s.moveToMemory c take = some s') : OnlyFifoOf c s.sif s'.sif := by
  unfold State.moveToMemory at h
  split at h
  · cases h
  · cases h; exact ht

theorem State.moveFromMemory_onlyFifoOf {s s' : State} {c : Ch} {give : Quad → State → State}
    (hg : ∀ q, OnlyFifoOf c s.sif (give q s).sif) (h : s.moveFromMemory c give = some s') :
    OnlyFifoOf c s.sif s'.sif := by
  unfold State.moveFromMemory at h
  split at h
  · cases h
  · cases h; exact hg _

/-- A quadword goes through the FIFO of its own channel (43_fifo_sif.md R421, R431, R441), through an IPU FIFO or through the
scratchpad. -/
theorem State.moveOne_onlyFifoOf {s s' : State} {c : Ch} (h : s.moveOne c = some s') : OnlyFifoOf c s.sif s'.sif := by
  have hkeep {t : State} (k : Ch) (ht : t.sif = s.sif) : OnlyFifoOf k s.sif t.sif := ht ▸ .refl k _
  unfold State.moveOne at h
  cases c with
  | vif0 | vif1 | gif => cases h
  | ipu0 => exact State.moveToMemory_onlyFifoOf (hkeep _ s.ipuOutPop_sif) h
  | ipu1 => exact State.moveFromMemory_onlyFifoOf (fun q => hkeep _ (s.ipuInPush_sif q)) h
  | sif0 => exact State.moveToMemory_onlyFifoOf (take := State.takeSif .sif0) (s.sifPop_onlyFifoOf .sif0 4) h
  | sif1 => exact State.moveFromMemory_onlyFifoOf (give := State.giveSif .sif1) (fun _ => s.sifPush_onlyFifoOf .sif1 _) h
  | sif2 =>
    simp only [] at h
    split at h
    · exact State.moveFromMemory_onlyFifoOf (give := State.giveSif .sif2) (fun _ => s.sifPush_onlyFifoOf .sif2 _) h
    · exact State.moveToMemory_onlyFifoOf (take := State.takeSif .sif2) (s.sifPop_onlyFifoOf .sif2 4) h
  | spr0 => exact State.moveToMemory_onlyFifoOf (take := State.takeSpr) (.refl _ _) h
  | spr1 => exact State.moveFromMemory_onlyFifoOf (give := State.giveSpr) (fun _ => .refl _ _) h

/-! ### The frame of an engine -/

/-- What a step of the engine of channel `c` leaves (20_memory.md R120): the other channels, the SIF channels but for the
FIFO of `c`, the generic cells and the VTLB. -/
structure EngineFrame (c : Ch) (s t : State) : Prop where
  touches : Touches c s t
  sif : OnlyFifoOf c s.sif t.sif
  gen : t.gen = s.gen
  vtlb : t.vtlb = s.vtlb

theorem EngineFrame.trans {c : Ch} {s t u : State} (h1 : EngineFrame c s t) (h2 : EngineFrame c t u) :
    EngineFrame c s u :=
  ⟨h1.touches.trans h2.touches, h1.sif.trans h2.sif, h2.gen.trans h1.gen, h2.vtlb.trans h1.vtlb⟩

/-- An operation on one channel that leaves every SIF channel, the generic cells and the VTLB. -/
theorem Touches.engineFrame {c : Ch} {s t : State} (h : Touches c s t) (hsif : t.sif = s.sif) (hgen : t.gen = s.gen)
    (hvtlb : t.vtlb = s.vtlb) : EngineFrame c s t :=
  ⟨h, hsif ▸ .refl c _, hgen, hvtlb⟩

theorem Touches.refl (c : Ch) (s : State) : Touches c s s := fun _ _ => ⟨rfl, rfl, rfl, rfl⟩

theorem EngineFrame.refl (c : Ch) (s : State) : EngineFrame c s s := (Touches.refl c s).engineFrame rfl rfl rfl

theorem engineFrame_updEng (s : State) (c : Ch) (f : Engine → Engine) : EngineFrame c s (s.updEng c f) :=
  (touches_updEng s c f).engineFrame rfl rfl rfl

theorem engineFrame_busError (s : State) (c : Ch) : EngineFrame c s (s.busError c) :=
  ((touches_hwDmacIrq s c statBeis).trans ((touches_updChan _ c _).trans ((touches_updEng _ c _).trans
    ((touches_setEv _ c _).trans (touches_setQueued _ c _))))).engineFrame rfl rfl rfl

/-- One quadword, from before its move to after its counts. -/
theorem State.moveOne_engineFrame {s s1 : State} {c : Ch} (h : s.moveOne c = some s1) :
    EngineFrame c s (counted s1 c) := by
  have htouches := (State.moveOne_quadMoved h).touches
  rw [← State.countOne_interleaveOne] at htouches ⊢
  exact {
    touches := htouches
    sif := by
      rw [State.interleaveOne_sif, State.countOne_sif]
      exact State.moveOne_onlyFifoOf h
    gen := by rw [State.interleaveOne_gen, State.countOne_gen, State.moveOne_gen h]
    vtlb := by rw [State.interleaveOne_vtlb, State.countOne_vtlb, State.moveOne_vtlb h] }

theorem engineFrame_moveN (s : State) (c : Ch) (n : Nat) : EngineFrame c s (s.moveN c n).1 := by
  induction n generalizing s with
  | zero => exact .refl c s
  | succ n ih =>
    cases hmove : s.moveOne c with
    | none =>
      rw [State.moveN_succ_of_none hmove, ← State.busError_eq_halted]
      exact engineFrame_busError s c
    | some s1 =>
      rw [State.moveN_succ_of_some hmove]
      exact (State.moveOne_engineFrame hmove).trans (ih _)

theorem engineFrame_endUnit (s : State) (c : Ch) : EngineFrame c s (s.endUnit c) := by
  have hends (f : Engine → Engine) (v : Option Nat) : EngineFrame c s ((s.updEng c f).setEv c v) :=
    ((touches_updEng s c f).trans (touches_setEv _ c v)).engineFrame rfl rfl rfl
  unfold State.endUnit
  simp only []
  split
  · split
    · exact hends _ _
    · exact hends _ _
  · exact engineFrame_updEng s c _

theorem engineFrame_stallSrcUpdate (s : State) (c : Ch) : EngineFrame c s (s.stallSrcUpdate c) := by
  rw [State.stallSrcUpdate_eq]
  exact ⟨fun _ _ => ⟨rfl, rfl, rfl, rfl⟩, .refl c _, rfl, rfl⟩

theorem engineFrame_transferStep (s : State) (c : Ch) (n : Nat) : EngineFrame c s (s.transferStep c n) := by
  have hmoved := engineFrame_moveN s c n
  unfold State.transferStep
  split
  · next s1 hs1 => rw [hs1] at hmoved; exact hmoved
  · next s1 hs1 =>
    rw [hs1] at hmoved
    have hcounted : EngineFrame c s ((s1.stallSrcUpdate c).addCycles c n) :=
      hmoved.trans ((engineFrame_stallSrcUpdate s1 c).trans (engineFrame_updEng _ c _))
    simp only []
    split
    · exact hcounted.trans (engineFrame_endUnit _ c)
    · exact hcounted

theorem engineFrame_transferPhase (s : State) (c : Ch) (n : Nat) : EngineFrame c s (s.transferPhase c n) := by
  unfold State.transferPhase
  split
  · exact engineFrame_endUnit s c
  · split
    · split
      · exact engineFrame_updEng s c _
      · exact .refl c s
    · exact engineFrame_transferStep s c _

/-- Sending a tag pushes into no FIFO but SIF1's, and that for SIF1's own tags (41_tag_walker.md R282). -/
theorem State.tteAction_onlyFifoOf (s : State) (c : SrcCh) (q : Quad) :
    OnlyFifoOf c.toCh s.sif (s.tteAction c q).sif := by
  unfold State.tteAction
  split
  · cases c with
    | ipu1 | spr1 => exact .refl _ _
    | sif1 => exact s.sifPush_onlyFifoOf .sif1 _
  · exact .refl _ _

/-- The fields that a rule leaves. -/
theorem SrcRule.frame {id : BitVec 3} {rule : IdRule} (h : SrcRule id rule) (k : Ch) (T : Word) (t : Tag) (s : State) :
    (rule k T t s).1.g = s.g ∧ (rule k T t s).1.sif = s.sif ∧ (rule k T t s).1.gen = s.gen
      ∧ (rule k T t s).1.mem = s.mem ∧ (rule k T t s).1.vtlb = s.vtlb := by
  rw [h.updates]
  exact ⟨rfl, rfl, rfl, rfl, rfl⟩

theorem engineFrame_takeSrcTag (s : State) (c : SrcCh) (id : BitVec 3) (t : Tag) {rule : IdRule}
    (h : SrcRule id rule) : EngineFrame c.toCh s (s.takeSrcTag c id t rule) := by
  have hrule (T : Word) (u : State) : EngineFrame c.toCh u (rule c.toCh T t u).1 := by
    obtain ⟨-, hsif, hgen, -, hvtlb⟩ := h.frame c.toCh T t u
    exact (h.touches c.toCh T t u).engineFrame hsif hgen hvtlb
  have htte (u : State) (q : Quad) : EngineFrame c.toCh u (u.tteAction c q) :=
    ⟨touches_tteAction u c q, u.tteAction_onlyFifoOf c q, u.tteAction_gen c q, u.tteAction_vtlb c q⟩
  have hload (u : State) (f : Chan → Chan) : EngineFrame c.toCh u (u.updChan c.toCh f) :=
    (touches_updChan u c.toCh f).engineFrame rfl rfl rfl
  simp only [State.takeSrcTag]
  exact (hload s _).trans ((hrule _ _).trans ((engineFrame_updEng _ c.toCh _).trans
    ((htte _ _).trans (engineFrame_updEng _ c.toCh _))))

theorem ExecEffect.engineFrame_of_srcTag {s s' : State} {c : SrcCh} (he : ExecEffect s (.srcTag c) s') :
    EngineFrame c.toCh s s' := by
  cases he with
  | host hport => cases hport
  | srcTag _ id t _ hrule => exact engineFrame_takeSrcTag s c id t hrule
  | srcStall => exact ((touches_hwDmacIrq s .sif1 statSis).trans (touches_updEng _ .sif1 _)).engineFrame rfl rfl rfl

theorem touches_takeDstTag (s : State) (c : DstCh) (id : BitVec 3) (t : Tag) (last cnts : Bool) :
    Touches c.toCh s (s.takeDstTag c id t last cnts) :=
  (touches_updChan s c.toCh _).trans (touches_updEng _ c.toCh _)

theorem ExecEffect.engineFrame_of_dstTag {s s' : State} {c : DstCh} (he : ExecEffect s (.dstTag c) s') :
    EngineFrame c.toCh s s' := by
  cases he with
  | host hport => cases hport
  | dstTag _ id t last cnts => exact (touches_takeDstTag s c id t last cnts).engineFrame rfl rfl rfl

/-- SIF0's destination tag is taken off SIF0's FIFO (43_fifo_sif.md R420). -/
theorem engineFrame_takeSif_sif0 (s : State) : EngineFrame .sif0 s (State.takeSif .sif0 s).2 where
  touches _ _ := ⟨by simp, by simp, by simp [State.isQueued], by simp⟩
  sif := s.sifPop_onlyFifoOf .sif0 4
  gen := s.takeSif_gen .sif0
  vtlb := s.takeSif_vtlb .sif0

/-- Every form of a step of an engine is within the engine's frame. -/
theorem StepForm.engineFrame {s s' : State} {c : Ch} {n : Nat} (hs : StepForm s (.engine c n) s') :
    EngineFrame c s s' := by
  cases hs with
  | held => exact .refl c s
  | host _ _ _ ha => cases Action.isHost_of_host ha
  | refused _ _ ha => cases Action.isHost_of_refused ha
  | tagBusError => exact engineFrame_busError s _
  | srcTag _ _ _ _ _ _ _ _ _ _ hi he => exact (hi ▸ exec_effect he).engineFrame_of_srcTag
  | dstTagSif0 _ _ _ _ _ _ _ hi he =>
    exact (engineFrame_takeSif_sif0 s).trans (hi ▸ exec_effect he).engineFrame_of_dstTag
  | dstTagSpr0 _ _ _ _ _ _ hi he =>
    have hsadr : EngineFrame .spr0 s (s.advanceSadr .spr0) := (touches_updChan s .spr0 _).engineFrame rfl rfl rfl
    exact hsadr.trans (hi ▸ exec_effect he).engineFrame_of_dstTag
  | transfer => exact engineFrame_transferPhase s c n
  | refetch => exact engineFrame_updEng s c _
  | wake => exact engineFrame_updEng s c _

/-! ### The external pump -/

theorem getLsbD_withBit_of_ne {w : Nat} (v : BitVec w) {i b : Nat} (h : b ≠ i) (x : Bool) :
    (withBit v i x).getLsbD b = v.getLsbD b := by
  have hbit : ((1#w <<< i).getLsbD b) = false := by simp; omega
  cases x with
  | true => rw [withBit, if_pos rfl, BitVec.getLsbD_or, hbit, Bool.or_false]
  | false =>
    rw [withBit, if_neg Bool.false_ne_true, BitVec.getLsbD_and, BitVec.getLsbD_not, hbit]
    by_cases hb : b < w
    · simp [hb]
    · rw [BitVec.getLsbD_of_ge _ _ (not_lt.mp hb), Bool.false_and]

/-- What the external pump of channel `c` can do to the state (00_scope.md R11). -/
inductive PumpEffect (c : Ch) (s : State) : State → Prop where
  | nothing : PumpEffect c s s
  | updates (hc : c.inScope = false) (d : Chan) (p : Phase) (stat : Word)
      (hstat : ∀ b, b ≠ c.num → stat.getLsbD b = s.g.stat.getLsbD b) :
      PumpEffect c s { s with
        chan := s.chan.set c d, eng := s.eng.set c { s.eng.get c with phase := p }, g := { s.g with stat := stat } }

theorem State.extPump_pumpEffect (s : State) (c : Ch) (op : ExtOp) : PumpEffect c s (s.extPump c op) := by
  unfold State.extPump
  split
  · next hg =>
    obtain ⟨hc, -⟩ := hg
    have hwrite (f : Chan → Chan) : PumpEffect c s (s.updChan c f) := by
      have hu := PumpEffect.updates (s := s) hc (f (s.chan.get c)) (s.eng.get c).phase s.g.stat fun _ _ => rfl
      rwa [PerChan.set_get_self] at hu
    split
    · exact hwrite _
    · exact hwrite _
    · have hu := PumpEffect.updates (s := s) hc (s.chan.get c) (s.eng.get c).phase (withBit s.g.stat c.num true)
        fun b hb => getLsbD_withBit_of_ne _ hb true
      rwa [PerChan.set_get_self, PerChan.set_get_self] at hu
    · exact .updates hc _ .idle s.g.stat fun _ _ => rfl
  · exact .nothing

theorem StepForm.pumpEffect {s s' : State} {c : Ch} {op : ExtOp} (hs : StepForm s (.extPump c op) s') :
    PumpEffect c s s' := by
  cases hs with
  | held => exact .nothing
  | host _ _ _ ha => cases Action.isHost_of_host ha
  | refused _ _ ha => cases Action.isHost_of_refused ha
  | extPump => exact s.extPump_pumpEffect c op

/-- Settles O19: an engine's step is within `EngineFrame`, the pump's is a `PumpEffect`. -/
theorem engineStepTouchesOnlyItsChannel : Obligations.EngineStepTouchesOnlyItsChannel := by
  unfold Obligations.EngineStepTouchesOnlyItsChannel
  refine ⟨fun s s' c n ha hs => ?engine, fun s s' c op ha hs => ?pump⟩
  case engine =>
    obtain ⟨e, hform⟩ := step_form_withEnv hs
    rw [ha] at hform
    have hframe := hform.engineFrame
    refine ⟨fun k hk => ?_, fun f => (hframe.sif f).1, fun f => (hframe.sif f).2, hframe.gen, hframe.vtlb⟩
    obtain ⟨hchan, heng, hqueued, hev⟩ := hframe.touches k hk
    exact ⟨hchan, heng, hev, hqueued⟩
  case pump =>
    obtain ⟨e, hform⟩ := step_form_withEnv hs
    rw [ha] at hform
    cases hform.pumpEffect with
    | nothing => exact ⟨rfl, fun _ _ => ⟨rfl, rfl⟩, rfl, fun _ _ => rfl, fun _ => ⟨rfl, rfl, rfl⟩⟩
    | updates hc d p stat hstat =>
      refine ⟨rfl, fun k hk => ⟨?chan, ?eng⟩, ?phase, hstat, fun hin => ?inScope⟩
      case chan | eng => exact PerChan.get_set_of_ne _ _ hk
      case phase => rw [PerChan.get_set_self]
      case inScope => rw [hc] at hin; cases hin

end Sys2Proof.Machine
end

section
/-!
PROOFS. O16: what a step makes of STAT, said once, and the completion of a run.
-/

namespace Sys2Proof.Machine
open Sys2Proof.Claims

/-! ### STAT -/

/-- What a step that takes action `a` can make of a STAT of `v` (60_exceptions.md R601, R604, 40_registers.md R232). -/
inductive StatEffect (a : Action) (v : Word) : Word → Prop where
  | kept : StatEffect a v v
  | hostWrite (w : Word) : StatEffect a v (statAfterWrite v w)
  | completion (c : Ch) (ha : a = .fire c) : StatEffect a v (withBit v c.num true)
  | pump (c : Ch) (ha : a = .extPump c .setCis) (hc : c.inScope = false) : StatEffect a v (withBit v c.num true)
  | stall (n : Nat) (ha : a = .engine .sif1 n) : StatEffect a v (withBit v statSis true)
  | busError (c : Ch) (n : Nat) (ha : a = .engine c n) : StatEffect a v (withBit v statBeis true)
  | mfifoEmpty (ha : a = .mfifoEmpty) : StatEffect a v (withBit v statMeis true)
  | reset (ha : a = .reset) : StatEffect a v 0

theorem StatEffect.of_eq {a : Action} {v w : Word} (h : w = v) : StatEffect a v w := h ▸ .kept

/-- `hwDmacIrq` raises no bit but its own. -/
theorem eq_of_withBit_raised {v : Word} {i b : Nat} (h0 : v.getLsbD b = false)
    (h1 : (withBit v i true).getLsbD b = true) : b = i := by
  by_contra hne
  rw [getLsbD_withBit_of_ne v hne, h0] at h1
  cases h1

/-- A host write raises no bit of the low half (40_registers.md R232). -/
theorem statAfterWrite_not_raised {v : Word} (w : Word) {b : Nat} (hb : b < 16) (h0 : v.getLsbD b = false) :
    (statAfterWrite v w).getLsbD b = false := by
  rw [statAfterWrite, BitVec.getLsbD_append, if_pos hb, BitVec.getLsbD_and, BitVec.getLsbD_setWidth, h0, Bool.and_false,
    Bool.false_and]

/-- Only the completion event of a channel in scope raises its bit. -/
theorem StatEffect.fire_of_raised {a : Action} {v v' : Word} {c : Ch} (h : StatEffect a v v') (hc : c.inScope = true)
    (h0 : v.getLsbD c.num = false) (h1 : v'.getLsbD c.num = true) : a = .fire c := by
  have hlt := Ch.num_lt c
  cases h with
  | kept => rw [h0] at h1; cases h1
  | hostWrite w => rw [statAfterWrite_not_raised w (by omega) h0] at h1; cases h1
  | completion k ha => rw [ha, Ch.num_injective (eq_of_withBit_raised h0 h1)]
  | pump k _ hk => rw [Ch.num_injective (eq_of_withBit_raised h0 h1), hk] at hc; cases hc
  | stall | busError | mfifoEmpty =>
    have hnum := eq_of_withBit_raised h0 h1
    simp only [statSis, statMeis, statBeis] at hnum
    omega
  | reset => exact absurd (h1.symm.trans BitVec.getLsbD_zero) (by decide)

/-! ### What each operation makes of STAT -/

theorem State.ctrlWrite_stat (s : State) (v : Word) : (s.ctrlWrite v).g.stat = s.g.stat := by
  simp only [State.ctrlWrite]
  split
  · rw [State.drainQueued_g, State.setG_g]
  · rfl

theorem State.enablewWrite_stat (s : State) (v : Word) : (s.enablewWrite v).g.stat = s.g.stat := by
  simp only [State.enablewWrite]
  split
  · rw [State.drainQueued_g, State.setG_g]
  · rfl

theorem State.globalWrite_statEffect (s : State) (a : Action) (r : GlobalReg) (v : Word) :
    StatEffect a s.g.stat (s.globalWrite r v).g.stat := by
  cases r with
  | stat => exact .hostWrite v
  | ctrl => exact .of_eq (s.ctrlWrite_stat v)
  | enablew => exact .of_eq (s.enablewWrite_stat v)
  | pcr | sqwc | rbsr | rbor | stadr | enabler => exact .kept

theorem HostEffect.statEffect {s s' : State} (h : HostEffect s s') (a : Action) :
    StatEffect a s.g.stat s'.g.stat := by
  cases h with
  | globalWrite r v => exact s.globalWrite_statEffect a r v
  | chanWrite c r v => exact .of_eq (congrArg Globals.stat (s.chanWrite_g c r v))
  | env | refused | memWrite | genWrite => exact .kept

/-- A source tag sets no status bit, unless SIF1 stalls on it (41_tag_walker.md R295). -/
theorem ExecEffect.statEffect_of_srcTag {s s' : State} {c : SrcCh} (he : ExecEffect s (.srcTag c) s') (n : Nat) :
    StatEffect (.engine c.toCh n) s.g.stat s'.g.stat := by
  cases he with
  | host hport => cases hport
  | srcTag _ id t rule hrule =>
    exact .of_eq (congrArg Globals.stat
      (s.takeSrcTag_g c id t rule fun k T u => (hrule.frame k T t u).1))
  | srcStall => exact .stall n rfl

theorem ExecEffect.stat_of_dstTag {s s' : State} {c : DstCh} (he : ExecEffect s (.dstTag c) s') :
    s'.g.stat = s.g.stat := by
  cases he with
  | host hport => cases hport
  | dstTag => rfl

theorem State.moveN_g {s t : State} {c : Ch} {n : Nat} (h : s.moveN c n = (t, true)) : t.g = s.g := by
  induction n generalizing s with
  | zero => cases h; rfl
  | succ n ih =>
    obtain ⟨u, hfirst, hrest⟩ := State.moveN_succ_true h
    exact (ih hrest).trans hfirst.g

theorem State.stallSrcUpdate_stat (s : State) (c : Ch) : (s.stallSrcUpdate c).g.stat = s.g.stat := by
  rw [State.stallSrcUpdate_eq]

/-- A transfer step sets no status bit but BEIS, at a bus error (41_tag_walker.md R286). -/
theorem State.transferStep_statEffect (s : State) (c : Ch) (n m : Nat) :
    StatEffect (.engine c m) s.g.stat (s.transferStep c n).g.stat := by
  unfold State.transferStep
  split
  · next t ht =>
    obtain ⟨k, s1, -, hmoved, -, rfl⟩ := State.moveN_false ht
    rw [← State.moveN_g hmoved]
    exact .busError c m rfl
  · next t ht =>
    have hstat : ((t.stallSrcUpdate c).addCycles c n).g.stat = s.g.stat := by
      rw [State.addCycles_g, State.stallSrcUpdate_stat, State.moveN_g ht]
    simp only []
    split
    · exact .of_eq (by rw [State.endUnit_g, hstat])
    · exact .of_eq hstat

theorem State.transferPhase_statEffect (s : State) (c : Ch) (n : Nat) :
    StatEffect (.engine c n) s.g.stat (s.transferPhase c n).g.stat := by
  unfold State.transferPhase
  split
  · exact .of_eq (by rw [State.endUnit_g])
  · split
    · split
      · exact .kept
      · exact .kept
    · exact s.transferStep_statEffect c _ n

/-- What the firing of an event can do (60_exceptions.md R606, R610): nothing, the completion of its channel, or, on a
channel 0..2, the emptying of its slot. -/
theorem State.fireEvent_cases (s : State) (c : Ch) :
    s.fireEvent c = s ∨
      (s.fireEvent c = s.complete c ∧ s.ev.get c ≠ none
        ∧ (c.inScope = true → (s.eng.get c).phase = .completing ∧ s.dmacRunnable = true)) ∨
      (s.fireEvent c = s.setEv c none ∧ c.inScope = false) := by
  unfold State.fireEvent
  split
  · exact .inl rfl
  · next he =>
    have hev : s.ev.get c ≠ none := by rw [he]; exact nofun
    split
    · split
      · next hg => exact .inr (.inl ⟨rfl, hev, fun _ => hg⟩)
      · exact .inl rfl
    · next hc =>
      split
      · exact .inr (.inl ⟨rfl, hev, fun hin => absurd hin hc⟩)
      · exact .inr (.inr ⟨rfl, by simpa using hc⟩)

theorem State.fireEvent_statEffect (s : State) (c : Ch) :
    StatEffect (.fire c) s.g.stat (s.fireEvent c).g.stat := by
  obtain h | ⟨h, -⟩ | ⟨h, -⟩ := s.fireEvent_cases c <;> rw [h]
  · exact .kept
  · exact .completion c rfl
  · exact .kept

theorem State.extPump_statEffect (s : State) (c : Ch) (op : ExtOp) :
    StatEffect (.extPump c op) s.g.stat (s.extPump c op).g.stat := by
  unfold State.extPump
  split
  · next hg =>
    split
    · exact .kept
    · exact .kept
    · exact .pump c rfl hg.1
    · exact .kept
  · exact .kept

/-- What every form of a step makes of STAT. -/
theorem StepForm.statEffect {s s' : State} {a : Action} (hs : StepForm s a s') :
    StatEffect a s.g.stat s'.g.stat := by
  have hkept {t : State} (hg : t.g = s.g) : StatEffect a s.g.stat t.g.stat := .of_eq (congrArg Globals.stat hg)
  cases hs with
  | host _ _ _ ha he => exact (StepForm.hostEffect ha he).statEffect a
  | interpLoad _ _ _ _ _ he => exact (interpLoad_hostEffect he).statEffect _
  | interpStore _ _ _ _ _ he => exact (interpStore_hostEffect he).statEffect _
  | tagBusError c n => exact .busError _ n rfl
  | srcTag c n _ _ _ _ _ _ _ _ hi he => exact (hi ▸ exec_effect he).statEffect_of_srcTag n
  | dstTagSif0 _ _ _ _ _ _ _ hi he =>
    refine .of_eq ((hi ▸ exec_effect he).stat_of_dstTag.trans ?_)
    rw [State.takeSif_g]
  | dstTagSpr0 _ _ _ _ _ _ hi he => exact .of_eq (hi ▸ exec_effect he).stat_of_dstTag
  | transfer c n => exact s.transferPhase_statEffect c n
  | fire c => exact s.fireEvent_statEffect c
  | extPump c op => exact s.extPump_statEffect c op
  | mfifoEmpty => exact .mfifoEmpty rfl
  | reset => exact .reset rfl
  | iopTagSif0 _ _ _ _ _ _ _ _ he | iopTagSif1 _ _ _ _ _ _ _ _ he => cases he; exact hkept (by simp)
  | held | refused | refetch | wake | ipuRequest => exact .kept
  | vtlbInit | iopPushData | iopPopData | iopPushJunk | iopPopJunk | iopEnd | fireIop | iopStart | ipuPush | ipuPop
  | extSchedule | mmuMap | iopCpuStore => exact hkept (by simp)

/-! ### The completion -/

theorem StepForm.eq_of_fire {s s' : State} {c : Ch} (hs : StepForm s (.fire c) s') : s' = s ∨ s' = s.fireEvent c := by
  cases hs with
  | held => exact .inl rfl
  | host _ _ _ ha => cases Action.isHost_of_host ha
  | refused _ _ ha => cases Action.isHost_of_refused ha
  | fire => exact .inr rfl

theorem sameBytes_of_mem {s t : State} (h : t.mem = s.mem) : SameBytes s t := by
  unfold SameBytes layout State.readByte
  rw [h]
  exact ⟨rfl, fun _ _ => rfl⟩

/-- What a completion leaves of its channel (60_exceptions.md R606). -/
theorem State.complete_self (s : State) (c : Ch) :
    (s.complete c).ev.get c = none ∧ ((s.complete c).eng.get c).phase = .idle ∧ ¬ busy (s.complete c) c := by
  refine ⟨s.complete_ev_self c, by simp [State.complete], ?_⟩
  have hstr : chcrStr ((s.complete c).chan.get c).chcr = false := by simp [State.complete]
  exact Bool.not_eq_true _ ▸ hstr

/-- Settles O16: of what a step can make of STAT only the firing of the channel's event raises its bit, and that only by the
completion. -/
theorem completionBitMeansTheRunEnded : Obligations.CompletionBitMeansTheRunEnded := by
  unfold Obligations.CompletionBitMeansTheRunEnded
  intro s s' c hc hs h0 h1
  obtain ⟨e, hform⟩ := step_form_withEnv hs
  rw [hform.statEffect.fire_of_raised hc h0 h1] at hform
  have hraised : s' ≠ { s with env := e } := by
    rintro rfl
    exact Bool.false_ne_true (h0.symm.trans h1)
  obtain hheld | hfired := hform.eq_of_fire
  · exact absurd hheld hraised
  · obtain hnothing | ⟨hcomplete, hev, hguard⟩ | ⟨-, hout⟩ := State.fireEvent_cases { s with env := e } c
    · exact absurd (hfired.trans hnothing) hraised
    · obtain ⟨hphase, hrunnable⟩ := hguard hc
      rw [hfired, hcomplete]
      obtain ⟨hev', hidle, hbusy⟩ := State.complete_self { s with env := e } c
      exact ⟨hev, hphase, (State.dmacRunnable_iff _).mp hrunnable, hev', hidle, hbusy, sameBytes_of_mem rfl⟩
    · rw [hc] at hout; cases hout

end Sys2Proof.Machine
end

section
/-!
PROOFS. O24: an instruction that is no store and sends no tag to the scratchpad leaves the memories.
-/

namespace Sys2Proof.Machine
open Sys2Proof.Claims

/-- Only a tag of SPR1 is sent to memory (41_tag_walker.md R282, 42_channel_engines.md R366). -/
theorem State.tteAction_mem {s : State} {c : SrcCh} (h : c = .spr1 → chcrTte (s.chan.get .spr1).chcr = false) (q : Quad) :
    (s.tteAction c q).mem = s.mem := by
  unfold State.tteAction
  split
  · next htte =>
    cases c with
    | ipu1 => rfl
    | sif1 => exact s.sifPush_mem .sif1 _
    | spr1 => rw [show SrcCh.spr1.toCh = .spr1 from rfl, h rfl] at htte; cases htte
  · rfl

/-- A rule leaves the memories and TTE, so that a source tag writes memory only by being sent (41_tag_walker.md R282). -/
theorem State.takeSrcTag_mem {s : State} {c : SrcCh} (h : c = .spr1 → chcrTte (s.chan.get .spr1).chcr = false)
    (id : BitVec 3) (t : Tag) {rule : IdRule} (hrule : SrcRule id rule) : (s.takeSrcTag c id t rule).mem = s.mem := by
  generalize hloaded : (s.updChan c.toCh fun d =>
    { d with chcr := chcrWithTag d.chcr (t.tagH id), qwc := t.qwc, madr := t.a }) = u
  obtain ⟨-, -, -, hmem, -⟩ := hrule.frame c.toCh (s.chan.get c.toCh).tadr t u
  obtain ⟨-, htte, -⟩ := hrule.chcr c.toCh (s.chan.get c.toCh).tadr t u
  simp only [State.takeSrcTag, hloaded]
  rw [State.updEng_mem, State.tteAction_mem, State.updEng_mem, hmem, ← hloaded, State.updChan_mem]
  rintro rfl
  subst hloaded
  exact htte.trans (by simpa [SrcCh.toCh] using h rfl)

theorem dispatchLoad_mem {w : Width} {sign : Bool} {va : Word} {s s' : State}
    (h : dispatchLoad w sign va s = .next s') : s'.mem = s.mem := by
  obtain ⟨-, hl⟩ | rfl := dispatchLoad_next h
  · obtain ⟨e, -, rfl⟩ | ⟨r, rfl⟩ := interpLoad_next hl
    · rfl
    · rfl
  · rfl

/-- A dispatcher that is no store is a load. -/
theorem exec_eq_dispatchLoad {i : Instr} (hp : i.port = .dispatch) (hi : ¬ isStore i) (s : State) :
    ∃ w sign va, exec i s = dispatchLoad w sign va s := by
  cases i
  case load8u va => exact ⟨.w8, false, va, rfl⟩
  case load8s va => exact ⟨.w8, true, va, rfl⟩
  case load16u va => exact ⟨.w16, false, va, rfl⟩
  case load16s va => exact ⟨.w16, true, va, rfl⟩
  case load32u va => exact ⟨.w32, false, va, rfl⟩
  case load32s va => exact ⟨.w32, true, va, rfl⟩
  case load64 va => exact ⟨.w64, false, va, rfl⟩
  case load128 va => exact ⟨.w128, false, va, rfl⟩
  case store8 | store16 | store32 | store64 | store128 => exact absurd trivial hi
  all_goals cases hp

/-- Every form of an instruction off the dispatchers' port leaves the memories, but for a tag that SPR1 sends. -/
theorem exec_mem_of_port {i : Instr} {s s' : State} (hp : i.port ≠ .dispatch)
    (htte : i.port = .srcTag .spr1 → chcrTte (s.chan.get .spr1).chcr = false) (h : exec i s = .next s') :
    s'.mem = s.mem := by
  have hform := exec_form i s
  rw [h] at hform
  generalize hr : (Host.Outcome.next s' : Result) = r at hform
  cases hform with
  | load _ _ _ _ hi | store _ _ _ _ hi => exact absurd hi hp
  | srcTag _ c id t rule hrule hi =>
    cases hr
    exact State.takeSrcTag_mem (fun hc => htte (hc ▸ hi)) id t hrule
  | swGen a v => obtain ⟨-, rfl⟩ | ⟨-, rfl⟩ := execSwGen_next hr.symm <;> simp
  | lwGen a => obtain ⟨-, rfl⟩ | ⟨-, rfl⟩ := execLwGen_next hr.symm <;> simp
  | swChan | lwChan | swGlobal | lwGlobal | srcStall | dstTag | iopTagSif0 | iopTagSif1 => cases hr; simp

/-- Settles O24: a dispatcher that is no store is a load, and any other instruction writes memory only by sending a tag. -/
theorem onlyStoresAndTagTransfersWriteMemory : Obligations.OnlyStoresAndTagTransfersWriteMemory := by
  unfold Obligations.OnlyStoresAndTagTransfersWriteMemory
  intro i s s' h hstore htte
  by_cases hp : i.port = .dispatch
  · obtain ⟨w, sign, va, hload⟩ := exec_eq_dispatchLoad hp hstore s
    exact sameBytes_of_mem (dispatchLoad_mem (hload ▸ h))
  · exact sameBytes_of_mem (exec_mem_of_port hp htte h)

end Sys2Proof.Machine
end

section
/-!
PROOFS. O4: the register address map, as one relation between an address and what it names, which DecodeMmio computes.
-/

namespace Sys2Proof

/-- What the address map says `x` to be of `addr` (30_encoding.md R180, R181, R182, R185). -/
def MmioTarget.Names (addr : Word) : MmioTarget → Prop
  | .chan c r => addr = c.base + r.offset
  | .global g => addr = g.addr
  | .generic a =>
    a = addr ∧ addr.toNat % 4 = 0 ∧ 0x10008000 ≤ addr.toNat ∧ addr.toNat ≤ 0x1000EFFC
      ∧ (∀ c r, addr ≠ Ch.base c + ChanReg.offset r) ∧ ∀ g, addr ≠ GlobalReg.addr g
  | .unaligned => addr.toNat % 4 ≠ 0
  | .outside =>
    addr.toNat % 4 = 0 ∧ ¬ (0x10008000 ≤ addr.toNat ∧ addr.toNat ≤ 0x1000EFFC) ∧ ∀ g, addr ≠ GlobalReg.addr g

/-! ### The searches -/

theorem chanAt_base_add_offset (c : Ch) (r : ChanReg) : chanAt (c.base + r.offset) = some (c, r) := by
  cases c <;> cases r <;> rfl

theorem globalAt_addr (g : GlobalReg) : globalAt g.addr = some g := by
  cases g <;> rfl

theorem eq_of_chanAt {addr : Word} {c : Ch} {r : ChanReg} (h : chanAt addr = some (c, r)) :
    addr = c.base + r.offset := by
  obtain ⟨c', -, hc⟩ := List.exists_of_findSome?_eq_some h
  obtain ⟨r', -, hr⟩ := List.exists_of_findSome?_eq_some hc
  split at hr
  · next haddr => cases hr; exact haddr
  · cases hr

theorem eq_of_globalAt {addr : Word} {g : GlobalReg} (h : globalAt addr = some g) : addr = g.addr := by
  have haddr := List.find?_some h
  exact of_decide_eq_true haddr

theorem chanAt_eq_none_iff {addr : Word} : chanAt addr = none ↔ ∀ c r, addr ≠ Ch.base c + ChanReg.offset r := by
  constructor
  · rintro h c r rfl
    rw [chanAt_base_add_offset] at h
    cases h
  · intro h
    rw [Option.eq_none_iff_forall_ne_some]
    exact fun ⟨c, r⟩ hs => h c r (eq_of_chanAt hs)

theorem globalAt_eq_none_iff {addr : Word} : globalAt addr = none ↔ ∀ g, addr ≠ GlobalReg.addr g := by
  constructor
  · rintro h g rfl
    rw [globalAt_addr] at h
    cases h
  · intro h
    rw [Option.eq_none_iff_forall_ne_some]
    exact fun g hs => h g (eq_of_globalAt hs)

/-! ### The map -/

theorem extractLsb'_two_eq_zero_iff (addr : Word) : addr.extractLsb' 0 2 = 0 ↔ addr.toNat % 4 = 0 := by
  rw [← BitVec.toNat_inj]
  simp

theorem decodeMmio_base_add_offset (c : Ch) (r : ChanReg) : decodeMmio (c.base + r.offset) = .chan c r := by
  cases c <;> cases r <;> rfl

theorem decodeMmio_globalAddr (g : GlobalReg) : decodeMmio g.addr = .global g := by
  cases g <;> rfl

/-- The channel registers lie on the pages of the DMAC (30_encoding.md R180, R181). -/
theorem base_add_offset_mem_pages (c : Ch) (r : ChanReg) :
    0x10008000 ≤ (c.base + r.offset).toNat ∧ (c.base + r.offset).toNat ≤ 0x1000EFFC := by
  cases c <;> cases r <;> decide

/-- An aligned word that is no named register is a generic cell or outside. -/
theorem decodeMmio_of_not_register {addr : Word} (halign : addr.toNat % 4 = 0)
    (hchan : ∀ c r, addr ≠ Ch.base c + ChanReg.offset r) (hglobal : ∀ g, addr ≠ GlobalReg.addr g) :
    decodeMmio addr =
      if 0x10008000 ≤ addr.toNat ∧ addr.toNat ≤ 0x1000EFFC then .generic addr else .outside := by
  unfold decodeMmio
  rw [if_neg (not_not_intro ((extractLsb'_two_eq_zero_iff addr).mpr halign)), chanAt_eq_none_iff.mpr hchan,
    globalAt_eq_none_iff.mpr hglobal]
  rfl

theorem decodeMmio_names (addr : Word) : (decodeMmio addr).Names addr := by
  by_cases halign : addr.toNat % 4 = 0
  · by_cases hchan : ∃ c r, addr = Ch.base c + ChanReg.offset r
    · obtain ⟨c, r, rfl⟩ := hchan
      rw [decodeMmio_base_add_offset]
      rfl
    by_cases hglobal : ∃ g, addr = GlobalReg.addr g
    · obtain ⟨g, rfl⟩ := hglobal
      rw [decodeMmio_globalAddr]
      rfl
    push Not at hchan hglobal
    rw [decodeMmio_of_not_register halign hchan hglobal]
    split
    · next hpages => exact ⟨rfl, halign, hpages.1, hpages.2, hchan, hglobal⟩
    · next hpages => exact ⟨halign, hpages, hglobal⟩
  · unfold decodeMmio
    rw [if_pos (mt (extractLsb'_two_eq_zero_iff addr).mp halign)]
    exact halign

theorem decodeMmio_of_names {addr : Word} {x : MmioTarget} (h : x.Names addr) : decodeMmio addr = x := by
  cases x with
  | chan c r => rw [show addr = _ from h, decodeMmio_base_add_offset]
  | global g => rw [show addr = _ from h, decodeMmio_globalAddr]
  | generic a =>
    obtain ⟨rfl, halign, hlo, hhi, hchan, hglobal⟩ := h
    rw [decodeMmio_of_not_register halign hchan hglobal, if_pos ⟨hlo, hhi⟩]
  | unaligned =>
    unfold decodeMmio
    rw [if_pos (mt (extractLsb'_two_eq_zero_iff addr).mp h)]
  | outside =>
    obtain ⟨halign, hpages, hglobal⟩ := h
    have hchan (c : Ch) (r : ChanReg) : addr ≠ c.base + r.offset := by
      rintro rfl
      exact hpages (base_add_offset_mem_pages c r)
    rw [decodeMmio_of_not_register halign hchan hglobal, if_neg hpages]

/-- An address decodes to exactly what the map says it names. -/
theorem decodeMmio_eq_iff {addr : Word} {x : MmioTarget} : decodeMmio addr = x ↔ x.Names addr :=
  ⟨fun h => h ▸ decodeMmio_names addr, decodeMmio_of_names⟩

/-- Settles O4: the five clauses are the five forms of what an address names. -/
theorem mmioDecodeIsTheAddressMap : Obligations.MmioDecodeIsTheAddressMap := by
  unfold Obligations.MmioDecodeIsTheAddressMap
  intro addr
  exact ⟨fun _ _ => decodeMmio_eq_iff, fun _ => decodeMmio_eq_iff, decodeMmio_eq_iff, fun _ => decodeMmio_eq_iff,
    decodeMmio_eq_iff⟩

end Sys2Proof
end

section
/-!
PROOFS. O2 and O3: the decoder and the encoder agree. The decoder reads the bytes of its port only; the fields of a tag are
the bits of its quadword, each in one place; a register access is decoded by the address map (O4); a dispatcher call by its
selector.
-/

namespace Sys2Proof
open Sys2Proof.Machine (decode_port)

/-! ### The bytes of a port -/

theorem length_le_of_decode {p : Port} {bs : List Byte} {i : Instr} (h : decode p bs = .ok i) :
    p.length ≤ bs.length := by
  unfold decode at h
  split at h
  · exact nomatch h
  · next hl => exact Nat.le_of_not_lt hl

/-- Only the port's own bytes are read (30_encoding.md R197). -/
theorem decode_take {p : Port} {bs : List Byte} (h : p.length ≤ bs.length) :
    decode p (bs.take p.length) = decode p bs := by
  unfold decode
  rw [List.length_take_of_le h, if_neg (lt_irrefl _), if_neg (Nat.not_lt.mpr h)]
  cases p <;> simp [Port.length, List.take_take, List.drop_take]

theorem decode_append {p : Port} {bs : List Byte} {i : Instr} (h : decode p bs = .ok i) (rest : List Byte) :
    decode p (bs ++ rest) = .ok i := by
  have hl := length_le_of_decode h
  have hl' : p.length ≤ (bs ++ rest).length := by
    rw [List.length_append]
    omega
  rw [← decode_take hl', List.take_append_of_le_length hl, decode_take hl, h]

/-- Four bytes are the bytes of a word. -/
theorem exists_word_leBytes {bs : List Byte} (h : bs.length = 4) : ∃ v : Word, bs = leBytes 4 (v.setWidth 128) := by
  have hround := leBytes_ofLeBytes bs 4 (by decide) h
  have hvalue := ofLeBytes_leBytes 4 (ofLeBytes bs)
  rw [hround] at hvalue
  exact ⟨(ofLeBytes bs).setWidth 32, hround.symm.trans (congrArg (leBytes 4) hvalue)⟩

/-- Sixteen bytes are the bytes of a quadword. -/
theorem exists_quad_leBytes {bs : List Byte} (h : bs.length = 16) : ∃ q : Quad, bs = leBytes 16 q :=
  ⟨ofLeBytes bs, (leBytes_ofLeBytes bs 16 le_rfl h).symm⟩

theorem exists_encodeWrite {bs : List Byte} (h : bs.length = 8) : ∃ a v, bs = encodeWrite a v := by
  obtain ⟨a, ha⟩ := exists_word_leBytes (bs := bs.take 4) (by simp [h])
  obtain ⟨v, hv⟩ := exists_word_leBytes (bs := bs.drop 4) (by simp [h])
  exact ⟨a, v, by rw [encodeWrite, ← ha, ← hv, List.take_append_drop]⟩

/-- A byte that is a selector, an address and a value are the bytes of a dispatcher call. -/
theorem exists_encodeDispatch {b : Byte} {bs : List Byte} (hb : b.toNat < 32) (h : bs.length = 20) :
    ∃ sel va v, b :: bs = encodeDispatch sel va v := by
  obtain ⟨va, hva⟩ := exists_word_leBytes (bs := bs.take 4) (by simp [h])
  obtain ⟨v, hv⟩ := exists_quad_leBytes (bs := bs.drop 4) (by simp [h])
  have hsel : leBytes 1 ((b.setWidth 5).setWidth 128) = [b] := by
    have hround : ((b.setWidth 5).setWidth 128).setWidth 8 = b := by
      apply BitVec.eq_of_toNat_eq
      simp
      omega
    simp only [leBytes, hround]
  exact ⟨b.setWidth 5, va, v, by rw [encodeDispatch, hsel, ← hva, ← hv, List.append_assoc, List.take_append_drop]; rfl⟩

@[simp] theorem take_leBytes (n : Nat) (v : Quad) : (leBytes n v).take n = leBytes n v :=
  List.take_of_length_le (length_leBytes n v).le

/-! ### The fields of a tag -/

theorem tagId_quad (id : BitVec 3) (t : Tag) : tagId (t.quad id) = id := by
  simp (disch := decide) only [tagId, Tag.quad, BitVec.extractLsb'_append_eq_of_add_le,
    BitVec.extractLsb'_append_eq_of_le]
  exact BitVec.extractLsb'_eq_self

theorem Tag.ofQuad_quad (id : BitVec 3) (t : Tag) : Tag.ofQuad (t.quad id) = t := by
  simp (disch := decide) only [Tag.ofQuad, Tag.quad, BitVec.extractLsb'_append_eq_of_add_le,
    BitVec.extractLsb'_append_eq_of_le]
  simp

theorem Tag.quad_ofQuad (q : Quad) : (Tag.ofQuad q).quad (tagId q) = q := by
  simp (disch := decide) only [Tag.quad, Tag.ofQuad, tagId, BitVec.extractLsb'_append_extractLsb'_eq_extractLsb']
  exact BitVec.extractLsb'_eq_self

theorem IopTag.ofQuad_quad (t : IopTag) : IopTag.ofQuad t.quad = t := by
  simp (disch := decide) only [IopTag.ofQuad, IopTag.quad, BitVec.extractLsb'_append_eq_of_add_le,
    BitVec.extractLsb'_append_eq_of_le]
  simp

theorem IopTag.quad_ofQuad (q : Quad) : (IopTag.ofQuad q).quad = q := by
  simp (disch := decide) only [IopTag.quad, IopTag.ofQuad, BitVec.extractLsb'_append_extractLsb'_eq_extractLsb']
  exact BitVec.extractLsb'_eq_self

/-! ### Tags by their ID -/

/-- The source-chain tag with an ID (30_encoding.md R151). -/
def Instr.srcTag (c : SrcCh) (id : BitVec 3) (t : Tag) : Instr :=
  match id.toNat with
  | 0 => .srcRefe c t | 1 => .srcCnt c t | 2 => .srcNext c t | 3 => .srcRef c t
  | 4 => .srcRefs c t | 5 => .srcCall c t | 6 => .srcRet c t | _ => .srcEnd c t

/-- The destination-chain tag with an ID (30_encoding.md R153). -/
def Instr.dstTag (c : DstCh) (id : BitVec 3) (t : Tag) : Instr :=
  match id.toNat with
  | 0 => .dstCnts c t | 1 => .dstCnt c t | 2 => .dstRsv2 c t | 3 => .dstRsv3 c t
  | 4 => .dstRsv4 c t | 5 => .dstRsv5 c t | 6 => .dstRsv6 c t | _ => .dstEnd c t

theorem decodeSrcTag_eq (c : SrcCh) (q : Quad) : decodeSrcTag c q = .srcTag c (tagId q) (Tag.ofQuad q) := rfl

theorem decodeDstTag_eq (c : DstCh) (q : Quad) : decodeDstTag c q = .dstTag c (tagId q) (Tag.ofQuad q) := rfl

theorem tagId_cases (id : BitVec 3) :
    id = 0 ∨ id = 1 ∨ id = 2 ∨ id = 3 ∨ id = 4 ∨ id = 5 ∨ id = 6 ∨ id = 7 := by
  revert id
  decide

theorem srcTag_wellFormed_encode (c : SrcCh) (id : BitVec 3) (t : Tag) :
    (Instr.srcTag c id t).wellFormed = true ∧ encode (.srcTag c id t) = leBytes 16 (t.quad id) := by
  obtain rfl | rfl | rfl | rfl | rfl | rfl | rfl | rfl := tagId_cases id <;> exact ⟨rfl, rfl⟩

theorem dstTag_wellFormed_encode (c : DstCh) (id : BitVec 3) (t : Tag) :
    (Instr.dstTag c id t).wellFormed = true ∧ encode (.dstTag c id t) = leBytes 16 (t.quad id) := by
  obtain rfl | rfl | rfl | rfl | rfl | rfl | rfl | rfl := tagId_cases id <;> exact ⟨rfl, rfl⟩

theorem decode_srcTag_leBytes (c : SrcCh) (q : Quad) :
    decode (.srcTag c) (leBytes 16 q) = .ok (.srcTag c (tagId q) (Tag.ofQuad q)) := by
  simp [decode, Port.length, ofLeBytes_leBytes_16, decodeSrcTag_eq]

theorem decode_dstTag_leBytes (c : DstCh) (q : Quad) :
    decode (.dstTag c) (leBytes 16 q) = .ok (.dstTag c (tagId q) (Tag.ofQuad q)) := by
  simp [decode, Port.length, ofLeBytes_leBytes_16, decodeDstTag_eq]

theorem decode_iopTagSif0_leBytes (q : Quad) :
    decode .iopTagSif0 (leBytes 16 q) = .ok (.iopTagSif0 (IopTag.ofQuad q)) := by
  simp [decode, Port.length, ofLeBytes_leBytes_16]

theorem decode_iopTagSif1_leBytes (q : Quad) :
    decode .iopTagSif1 (leBytes 16 q) = .ok (.iopTagSif1 (IopTag.ofQuad q)) := by
  simp [decode, Port.length, ofLeBytes_leBytes_16]

theorem decode_srcTag_quad (c : SrcCh) (id : BitVec 3) (t : Tag) :
    decode (.srcTag c) (leBytes 16 (t.quad id)) = .ok (.srcTag c id t) := by
  rw [decode_srcTag_leBytes, tagId_quad, Tag.ofQuad_quad]

theorem decode_dstTag_quad (c : DstCh) (id : BitVec 3) (t : Tag) :
    decode (.dstTag c) (leBytes 16 (t.quad id)) = .ok (.dstTag c id t) := by
  rw [decode_dstTag_leBytes, tagId_quad, Tag.ofQuad_quad]

/-! ### Register accesses by what their address names -/

theorem decode_swChan (c : Ch) (r : ChanReg) (v : Word) :
    decode .mmioWrite (encodeWrite (c.base + r.offset) v) = .ok (.swChan c r v) := by
  rw [decode_encodeWrite, decodeWrite, decodeMmio_base_add_offset]

theorem decode_lwChan (c : Ch) (r : ChanReg) :
    decode .mmioRead (encodeRead (c.base + r.offset)) = .ok (.lwChan c r) := by
  rw [decode_encodeRead, decodeRead, decodeMmio_base_add_offset]

theorem decode_swGlobal (g : GlobalReg) (v : Word) :
    decode .mmioWrite (encodeWrite g.addr v) = .ok (.swGlobal g v) := by
  rw [decode_encodeWrite, decodeWrite, decodeMmio_globalAddr]

theorem decode_lwGlobal (g : GlobalReg) : decode .mmioRead (encodeRead g.addr) = .ok (.lwGlobal g) := by
  rw [decode_encodeRead, decodeRead, decodeMmio_globalAddr]

theorem decodeMmio_of_isGeneric {a : Word} (h : isGeneric a = true) : decodeMmio a = .generic a :=
  of_decide_eq_true h

theorem decode_swGen {a : Word} (h : isGeneric a = true) (v : Word) :
    decode .mmioWrite (encodeWrite a v) = .ok (.swGen a v) := by
  rw [decode_encodeWrite, decodeWrite, decodeMmio_of_isGeneric h]

theorem decode_lwGen {a : Word} (h : isGeneric a = true) : decode .mmioRead (encodeRead a) = .ok (.lwGen a) := by
  rw [decode_encodeRead, decodeRead, decodeMmio_of_isGeneric h]

/-- The write that an address and a value decode to is well formed and encodes to them (30_encoding.md R185). -/
theorem wellFormed_encode_of_decodeWrite {a v : Word} {i : Instr} (h : decodeWrite a v = .ok i) :
    i.wellFormed = true ∧ encode i = encodeWrite a v := by
  unfold decodeWrite at h
  split at h <;> cases h
  · next c r ha =>
    obtain rfl : a = c.base + r.offset := decodeMmio_eq_iff.mp ha
    cases c <;> cases r <;> exact ⟨rfl, rfl⟩
  · next g ha =>
    obtain rfl : a = g.addr := decodeMmio_eq_iff.mp ha
    cases g <;> exact ⟨rfl, rfl⟩
  · next b ha =>
    obtain ⟨rfl, -⟩ := decodeMmio_eq_iff.mp ha
    exact ⟨decide_eq_true ha, rfl⟩

/-- The read that an address decodes to is well formed and encodes to it (30_encoding.md R185). -/
theorem wellFormed_encode_of_decodeRead {a : Word} {i : Instr} (h : decodeRead a = .ok i) :
    i.wellFormed = true ∧ encode i = encodeRead a := by
  unfold decodeRead at h
  split at h <;> cases h
  · next c r ha =>
    obtain rfl : a = c.base + r.offset := decodeMmio_eq_iff.mp ha
    cases c <;> cases r <;> exact ⟨rfl, rfl⟩
  · next g ha =>
    obtain rfl : a = g.addr := decodeMmio_eq_iff.mp ha
    cases g <;> exact ⟨rfl, rfl⟩
  · next b ha =>
    obtain ⟨rfl, -⟩ := decodeMmio_eq_iff.mp ha
    exact ⟨decide_eq_true ha, rfl⟩

/-! ### Dispatcher calls by their selector -/

theorem decode_dispatcher {sel : BitVec 5} {va : Word} {v : Quad} {i : Instr} (h : dispatcher? sel va v = some i) :
    decode .dispatch (encodeDispatch sel va v) = .ok i := by
  rw [decode_encodeDispatch, h]

/-- Only the selectors of 44_vtlb.md R495 name a dispatcher. -/
theorem mem_validSelectors_of_dispatcher {sel : BitVec 5} {va : Word} {v : Quad} {i : Instr}
    (h : dispatcher? sel va v = some i) : sel ∈ validSelectors := by
  unfold dispatcher? at h
  split at h
  case h_14 => exact nomatch h
  all_goals next hsel => simp [validSelectors, ← BitVec.toNat_inj, hsel]

/-- A load has no value: its encoding keeps the selector and the address of the call. -/
theorem wellFormed_encode_of_dispatcher {sel : BitVec 5} {va : Word} {v : Quad} {i : Instr}
    (h : dispatcher? sel va v = some i) : i.wellFormed = true ∧ ∃ w, encode i = encodeDispatch sel va w := by
  have hsel := mem_validSelectors_of_dispatcher h
  simp only [validSelectors, List.mem_cons, List.not_mem_nil, or_false] at hsel
  obtain rfl | rfl | rfl | rfl | rfl | rfl | rfl | rfl | rfl | rfl | rfl | rfl | rfl := hsel <;> cases h <;>
    exact ⟨rfl, _, rfl⟩

theorem take_encodeDispatch (sel : BitVec 5) (va : Word) (v : Quad) :
    (encodeDispatch sel va v).take 5 = leBytes 1 (sel.setWidth 128) ++ leBytes 4 (va.setWidth 128) :=
  List.take_left' (by simp)

/-- Bytes that decode on the dispatchers' port are those of a call that its selector makes. -/
theorem exists_dispatcher_of_decode {bs : List Byte} {i : Instr} (hl : bs.length = 21)
    (h : decode .dispatch bs = .ok i) :
    ∃ sel va v, bs = encodeDispatch sel va v ∧ dispatcher? sel va v = some i := by
  obtain ⟨b, bs, rfl⟩ := List.exists_cons_of_length_eq_add_one hl
  have hb : b.toNat < 32 := by
    by_contra hb
    simp [decode, Port.length, ofLeBytes, hb, Nat.succ.inj hl] at h
  obtain ⟨sel, va, v, hbs⟩ := exists_encodeDispatch hb (Nat.succ.inj hl)
  rw [hbs, decode_encodeDispatch] at h
  split at h <;> cases h
  next hi => exact ⟨sel, va, v, hbs, hi⟩

/-! ### The round trips -/

/-- An instruction's own bytes decode to it, case by case along the rows of the opcode table. -/
theorem decode_encode (i : Instr) (hi : i.wellFormed = true) : decode i.port (encode i) = .ok i := by
  cases i
  case srcRefe | srcCnt | srcNext | srcRef | srcRefs | srcCall | srcRet | srcEnd => exact decode_srcTag_quad _ _ _
  case dstCnts | dstCnt | dstRsv2 | dstRsv3 | dstRsv4 | dstRsv5 | dstRsv6 | dstEnd => exact decode_dstTag_quad _ _ _
  case iopTagSif0 t => exact (decode_iopTagSif0_leBytes _).trans (by rw [t.ofQuad_quad])
  case iopTagSif1 t => exact (decode_iopTagSif1_leBytes _).trans (by rw [t.ofQuad_quad])
  case swD0Chcr | swD0Madr | swD0Qwc | swD0Tadr | swD0Asr0 | swD0Asr1 | swD0Sadr
      | swD1Chcr | swD1Madr | swD1Qwc | swD1Tadr | swD1Asr0 | swD1Asr1 | swD1Sadr
      | swD2Chcr | swD2Madr | swD2Qwc | swD2Tadr | swD2Asr0 | swD2Asr1 | swD2Sadr
      | swD3Chcr | swD3Madr | swD3Qwc | swD3Tadr | swD3Asr0 | swD3Asr1 | swD3Sadr
      | swD4Chcr | swD4Madr | swD4Qwc | swD4Tadr | swD4Asr0 | swD4Asr1 | swD4Sadr
      | swD5Chcr | swD5Madr | swD5Qwc | swD5Tadr | swD5Asr0 | swD5Asr1 | swD5Sadr
      | swD6Chcr | swD6Madr | swD6Qwc | swD6Tadr | swD6Asr0 | swD6Asr1 | swD6Sadr
      | swD7Chcr | swD7Madr | swD7Qwc | swD7Tadr | swD7Asr0 | swD7Asr1 | swD7Sadr
      | swD8Chcr | swD8Madr | swD8Qwc | swD8Tadr | swD8Asr0 | swD8Asr1 | swD8Sadr
      | swD9Chcr | swD9Madr | swD9Qwc | swD9Tadr | swD9Asr0 | swD9Asr1 | swD9Sadr => exact decode_swChan _ _ _
  case lwD0Chcr | lwD0Madr | lwD0Qwc | lwD0Tadr | lwD0Asr0 | lwD0Asr1 | lwD0Sadr
      | lwD1Chcr | lwD1Madr | lwD1Qwc | lwD1Tadr | lwD1Asr0 | lwD1Asr1 | lwD1Sadr
      | lwD2Chcr | lwD2Madr | lwD2Qwc | lwD2Tadr | lwD2Asr0 | lwD2Asr1 | lwD2Sadr
      | lwD3Chcr | lwD3Madr | lwD3Qwc | lwD3Tadr | lwD3Asr0 | lwD3Asr1 | lwD3Sadr
      | lwD4Chcr | lwD4Madr | lwD4Qwc | lwD4Tadr | lwD4Asr0 | lwD4Asr1 | lwD4Sadr
      | lwD5Chcr | lwD5Madr | lwD5Qwc | lwD5Tadr | lwD5Asr0 | lwD5Asr1 | lwD5Sadr
      | lwD6Chcr | lwD6Madr | lwD6Qwc | lwD6Tadr | lwD6Asr0 | lwD6Asr1 | lwD6Sadr
      | lwD7Chcr | lwD7Madr | lwD7Qwc | lwD7Tadr | lwD7Asr0 | lwD7Asr1 | lwD7Sadr
      | lwD8Chcr | lwD8Madr | lwD8Qwc | lwD8Tadr | lwD8Asr0 | lwD8Asr1 | lwD8Sadr
      | lwD9Chcr | lwD9Madr | lwD9Qwc | lwD9Tadr | lwD9Asr0 | lwD9Asr1 | lwD9Sadr => exact decode_lwChan _ _
  case swCtrl | swStat | swPcr | swSqwc | swRbsr | swRbor | swStadr | swEnabler | swEnablew =>
    exact decode_swGlobal _ _
  case lwCtrl | lwStat | lwPcr | lwSqwc | lwRbsr | lwRbor | lwStadr | lwEnabler | lwEnablew =>
    exact decode_lwGlobal _
  case swGen a v => exact decode_swGen hi v
  case lwGen a => exact decode_lwGen hi
  case load8u | load8s | load16u | load16s | load32u | load32s | load64 | load128 => exact decode_dispatcher rfl
  case store8 | store16 | store32 | store64 | store128 => exact decode_dispatcher rfl

/-- Settles O2: an instruction's own bytes decode to it, and no byte after them is read. -/
theorem decodeOfEncode : Obligations.DecodeOfEncode := by
  unfold Obligations.DecodeOfEncode
  exact fun i hi rest => decode_append (decode_encode i hi) rest

/-- The bytes of a port, but for a dispatcher call, are the encoding of what they decode to. -/
theorem wellFormed_encode_of_decode {p : Port} {bs : List Byte} {i : Instr} (hp : p ≠ .dispatch)
    (hl : bs.length = p.length) (h : decode p bs = .ok i) : i.wellFormed = true ∧ encode i = bs := by
  cases p with
  | srcTag c =>
    obtain ⟨q, rfl⟩ := exists_quad_leBytes hl
    rw [decode_srcTag_leBytes] at h
    cases h
    simpa only [Tag.quad_ofQuad] using srcTag_wellFormed_encode c (tagId q) (Tag.ofQuad q)
  | dstTag c =>
    obtain ⟨q, rfl⟩ := exists_quad_leBytes hl
    rw [decode_dstTag_leBytes] at h
    cases h
    simpa only [Tag.quad_ofQuad] using dstTag_wellFormed_encode c (tagId q) (Tag.ofQuad q)
  | iopTagSif0 =>
    obtain ⟨q, rfl⟩ := exists_quad_leBytes hl
    rw [decode_iopTagSif0_leBytes] at h
    cases h
    exact ⟨rfl, congrArg (leBytes 16) (IopTag.quad_ofQuad q)⟩
  | iopTagSif1 =>
    obtain ⟨q, rfl⟩ := exists_quad_leBytes hl
    rw [decode_iopTagSif1_leBytes] at h
    cases h
    exact ⟨rfl, congrArg (leBytes 16) (IopTag.quad_ofQuad q)⟩
  | mmioWrite =>
    obtain ⟨a, v, rfl⟩ := exists_encodeWrite hl
    exact wellFormed_encode_of_decodeWrite (decode_encodeWrite a v ▸ h)
  | mmioRead =>
    obtain ⟨a, rfl⟩ := exists_word_leBytes hl
    exact wellFormed_encode_of_decodeRead (decode_encodeRead a ▸ h)
  | dispatch => exact absurd rfl hp

/-- Settles O3: on the port's own bytes, of a dispatcher call by its selector, of any other port by the round trip of the
fields. -/
theorem encodeOfDecode : Obligations.EncodeOfDecode := by
  unfold Obligations.EncodeOfDecode
  intro p bs i h
  have hl := length_le_of_decode h
  have hown := List.length_take_of_le hl
  rw [← decode_take hl] at h
  refine ⟨decode_port h, ?_⟩
  by_cases hp : p = .dispatch
  · subst hp
    obtain ⟨sel, va, v, hbs, hi⟩ := exists_dispatcher_of_decode hown h
    obtain ⟨hwf, w, hw⟩ := wellFormed_encode_of_dispatcher hi
    refine ⟨hwf, ?_⟩
    calc (encode i).take 5
      _ = (encodeDispatch sel va v).take 5 := by rw [hw, take_encodeDispatch, take_encodeDispatch]
      _ = bs.take 5 := by rw [← hbs, List.take_take]; rfl
  · rw [if_neg hp]
    exact wellFormed_encode_of_decode hp hown h

end Sys2Proof
end

section
/-!
PROOFS. O1 and O5: words of the spec, and the dispatchers' selectors.
-/

namespace Sys2Proof.Machine
open Sys2Proof.Claims

/-- Settles O1: nine closed words, each run through the decoder. -/
theorem wordsOfTheSpecDecode : Obligations.WordsOfTheSpecDecode := by
  unfold Obligations.WordsOfTheSpecDecode
  decide

/-- A selector outside the set names no dispatcher (44_vtlb.md R496). -/
theorem dispatcher_eq_none {sel : BitVec 5} (h : sel ∉ validSelectors) (va : Word) (v : Quad) :
    dispatcher? sel va v = none :=
  Option.eq_none_iff_forall_ne_some.mpr fun _ hi => h (mem_validSelectors_of_dispatcher hi)

/-- A call that names no dispatcher is refused. -/
theorem readInstr_dispatch_of_none {sel : BitVec 5} {va : Word} {v : Quad} (h : dispatcher? sel va v = none) (s : State) :
    readInstr .dispatch (encodeDispatch sel va v) s = .done (.next (s.refuse (.notADispatcher sel))) := by
  unfold readInstr
  rw [decode_encodeDispatch, h]
  simp [refusalOf]

/-- Settles O5: the 13 selectors are the arms of `dispatcher?`, and a call of another is refused when it is read. -/
theorem dispatcherSelectorSet : Obligations.DispatcherSelectorSet := by
  unfold Obligations.DispatcherSelectorSet
  intro va v
  refine ⟨rfl, rfl, rfl, rfl, rfl, rfl, rfl, rfl, rfl, rfl, rfl, rfl, rfl, ?_⟩
  intro sel s rest hsel hs
  rw [step_withAgenda_cons hs]
  exact congrArg Move.result (readInstr_dispatch_of_none (dispatcher_eq_none hsel va v) (withAgenda s rest))

end Sys2Proof.Machine
end

section
/-!
PROOFS. The host's writes of a channel's registers, one equation per case of R203 and R210 to R216, and what such a write
leaves of the other channels.
-/

namespace Sys2Proof.Machine
open Sys2Proof.Claims

/-! ### The registers but CHCR -/

theorem State.chanWrite_of_ne_chcr (s : State) (c : Ch) {r : ChanReg} (hr : r ≠ .chcr) (v : Word) :
    s.chanWrite c r v = s.chanRegWrite c r v := by
  cases r with
  | chcr => exact absurd rfl hr
  | madr | qwc | tadr | asr0 | asr1 | sadr => rfl

theorem State.chanRegWrite_of_busy {s : State} {c : Ch} (h : busy s c) (r : ChanReg) (v : Word) :
    s.chanRegWrite c r v = s := if_pos h

theorem State.chanRegWrite_of_not_busy {s : State} {c : Ch} (h : ¬ busy s c) (r : ChanReg) (v : Word) :
    s.chanRegWrite c r v = s.updChan c fun d => d.write r v := if_neg h

/-! ### CHCR -/

theorem State.dmaExec_of_busy_start {s : State} {c : Ch} {v : Word} (h : busy s c) (hv : chcrStr v = true) :
    s.dmaExec c v = s := (if_pos h).trans (if_pos hv)

theorem State.dmaExec_of_busy_stop {s : State} {c : Ch} {v : Word} (h : busy s c) (hv : chcrStr v = false) :
    s.dmaExec c v = s.forceStop c v := (if_pos h).trans (if_neg (by simp [hv]))

theorem State.dmaExec_of_idle_stop {s : State} {c : Ch} {v : Word} (h : ¬ busy s c) (hv : chcrStr v = false) :
    s.dmaExec c v = s.updChan c fun d => { d with chcr := v } := (if_neg h).trans (if_neg (by simp [hv]))

/-- A write that starts an idle channel commits CHCR, and then starts the channel or queues the start. -/
theorem State.dmaExec_of_idle_start {s : State} {c : Ch} {v : Word} (h : ¬ busy s c) (hv : chcrStr v = true) :
    s.dmaExec c v =
      if s.dmacRunnable then (s.updChan c fun d => { d with chcr := s.coerceMod v }).startChannel c
      else (s.updChan c fun d => { d with chcr := s.coerceMod v }).queueChannel c :=
  (if_neg h).trans (if_pos hv)

/-! ### The other channels -/

theorem touches_forceStop (s : State) (c : Ch) (v : Word) : Touches c s (s.forceStop c v) :=
  (touches_updChan s c _).trans ((touches_setEv _ c _).trans
    ((touches_setQueued _ c _).trans (touches_updEng _ c _)))

theorem touches_queueChannel (s : State) (c : Ch) : Touches c s (s.queueChannel c) :=
  (touches_setQueued s c true).trans (touches_updEng _ c _)

theorem touches_dmaExec (s : State) (c : Ch) (v : Word) : Touches c s (s.dmaExec c v) := by
  by_cases hbusy : busy s c
  · cases hv : chcrStr v
    · rw [State.dmaExec_of_busy_stop hbusy hv]; exact touches_forceStop s c v
    · rw [State.dmaExec_of_busy_start hbusy hv]; exact .refl c s
  · cases hv : chcrStr v
    · rw [State.dmaExec_of_idle_stop hbusy hv]; exact touches_updChan s c _
    · rw [State.dmaExec_of_idle_start hbusy hv]
      split
      · exact (touches_updChan s c _).trans (touches_startChannel _ c)
      · exact (touches_updChan s c _).trans (touches_queueChannel _ c)

/-- A write of a channel's register changes no other channel (40_registers.md R200). -/
theorem touches_chanWrite (s : State) (c : Ch) (r : ChanReg) (v : Word) : Touches c s (s.chanWrite c r v) := by
  by_cases hr : r = .chcr
  · subst hr; exact touches_dmaExec s c v
  · rw [State.chanWrite_of_ne_chcr s c hr]
    unfold State.chanRegWrite
    split
    · exact .refl c s
    · exact touches_updChan s c _

end Sys2Proof.Machine
end

section
/-!
PROOFS. O18: while a channel is busy, a step that is not its engine's and no reset leaves its registers but CHCR.
-/

namespace Sys2Proof.Machine
open Sys2Proof.Claims

/-- Of the registers of channel `c` none has changed but CHCR. -/
def OnlyChcrChanged (c : Ch) (s t : State) : Prop :=
  t.chan.get c = { s.chan.get c with chcr := (t.chan.get c).chcr }

theorem onlyChcrChanged_of_get_eq {c : Ch} {s t : State} (h : t.chan.get c = s.chan.get c) : OnlyChcrChanged c s t := by
  unfold OnlyChcrChanged
  rw [h]

theorem onlyChcrChanged_of_chan_eq {c : Ch} {s t : State} (h : t.chan = s.chan) : OnlyChcrChanged c s t :=
  onlyChcrChanged_of_get_eq (congrArg (·.get c) h)

theorem Touches.onlyChcrChanged {c k : Ch} {s t : State} (h : Touches k s t) (hk : c ≠ k) : OnlyChcrChanged c s t :=
  onlyChcrChanged_of_get_eq (h c hk).1

theorem onlyChcrChanged_updChan_chcr (s : State) (c k : Ch) (f : Chan → Word) :
    OnlyChcrChanged c s (s.updChan k fun d => { d with chcr := f d }) := by
  by_cases hk : c = k
  · subst hk; simp [OnlyChcrChanged]
  · exact (touches_updChan s k _).onlyChcrChanged hk

/-- A busy channel drops the writes of its registers, and a write of its CHCR changes no other (40_registers.md R203, R210,
R211). -/
theorem State.chanWrite_onlyChcrChanged {s : State} {c : Ch} (h : busy s c) (k : Ch) (r : ChanReg) (v : Word) :
    OnlyChcrChanged c s (s.chanWrite k r v) := by
  by_cases hk : c = k
  · subst hk
    by_cases hr : r = .chcr
    · subst hr
      change OnlyChcrChanged c s (s.dmaExec c v)
      cases hv : chcrStr v
      · rw [State.dmaExec_of_busy_stop h hv]; exact onlyChcrChanged_updChan_chcr s c c fun _ => v
      · rw [State.dmaExec_of_busy_start h hv]; exact onlyChcrChanged_of_chan_eq rfl
    · rw [State.chanWrite_of_ne_chcr s c hr, State.chanRegWrite_of_busy h]
      exact onlyChcrChanged_of_chan_eq rfl
  · exact (touches_chanWrite s k r v).onlyChcrChanged hk

theorem HostEffect.onlyChcrChanged {s s' : State} {c : Ch} (he : HostEffect s s') (h : busy s c) :
    OnlyChcrChanged c s s' := by
  cases he with
  | chanWrite k r v => exact State.chanWrite_onlyChcrChanged h k r v
  | globalWrite g v => exact onlyChcrChanged_of_chan_eq (s.globalWrite_chan g v)
  | env | refused | memWrite | genWrite => exact onlyChcrChanged_of_chan_eq rfl

/-- The end of a run clears STR and changes no other register (60_exceptions.md R606). -/
theorem State.fireEvent_onlyChcrChanged (s : State) (c k : Ch) : OnlyChcrChanged c s (s.fireEvent k) := by
  obtain h | ⟨h, -⟩ | ⟨h, -⟩ := s.fireEvent_cases k <;> rw [h]
  · exact onlyChcrChanged_of_chan_eq rfl
  · exact onlyChcrChanged_updChan_chcr s c k fun d => chcrWithStr d.chcr false
  · exact onlyChcrChanged_of_chan_eq rfl

/-- The external pump writes the registers of channels 0..2 only (00_scope.md R11). -/
theorem PumpEffect.onlyChcrChanged {s t : State} {c k : Ch} (h : PumpEffect k s t) (hc : c.inScope = true) :
    OnlyChcrChanged c s t := by
  cases h with
  | nothing => exact onlyChcrChanged_of_chan_eq rfl
  | updates hk =>
    have hne : c ≠ k := by rintro rfl; rw [hc] at hk; cases hk
    exact onlyChcrChanged_of_get_eq (PerChan.get_set_of_ne _ _ hne)

theorem StepForm.onlyChcrChanged {s s' : State} {a : Action} {c : Ch} (hs : StepForm s a s') (hc : c.inScope = true)
    (hbusy : busy s c) (hengine : ∀ n, a ≠ .engine c n) (hreset : a ≠ .reset) : OnlyChcrChanged c s s' := by
  have hother (k : Ch) (n : Nat) (ha : a = .engine k n) : OnlyChcrChanged c s s' := by
    subst ha
    exact hs.engineFrame.touches.onlyChcrChanged fun hk => hengine n (hk ▸ rfl)
  cases hs with
  | tagBusError | srcTag | dstTagSif0 | dstTagSpr0 | transfer | refetch | wake => exact hother _ _ rfl
  | host _ _ _ ha he => exact (StepForm.hostEffect ha he).onlyChcrChanged hbusy
  | interpLoad _ _ _ _ _ he => exact (interpLoad_hostEffect he).onlyChcrChanged hbusy
  | interpStore _ _ _ _ _ he => exact (interpStore_hostEffect he).onlyChcrChanged hbusy
  | fire k => exact s.fireEvent_onlyChcrChanged c k
  | extPump k op => exact (s.extPump_pumpEffect k op).onlyChcrChanged hc
  | reset => exact absurd rfl hreset
  | iopTagSif0 _ _ _ _ _ _ _ _ he | iopTagSif1 _ _ _ _ _ _ _ _ he =>
    cases he
    exact onlyChcrChanged_of_chan_eq (by simp)
  | held | refused | vtlbInit | iopPushData | iopPopData | iopPushJunk | iopPopJunk | iopEnd | fireIop | iopStart
  | ipuPush | ipuPop | ipuRequest | extSchedule | mfifoEmpty | mmuMap | iopCpuStore =>
    exact onlyChcrChanged_of_chan_eq (by simp)

/-- Settles O18: the engines of other channels stay in their frames, the host's writes are dropped or write CHCR, and of the
other agents' steps only the end of a run writes a register of a channel in scope, its CHCR. -/
theorem busyRegistersBelongToTheEngine : Obligations.BusyRegistersBelongToTheEngine := by
  unfold Obligations.BusyRegistersBelongToTheEngine
  intro s s' c hc hbusy hs hengine hreset
  obtain ⟨e, hform⟩ := step_form_withEnv hs
  exact hform.onlyChcrChanged hc hbusy hengine hreset

end Sys2Proof.Machine
end

section
/-!
PROOFS. O27, O28 and O29: what the host's write of a channel's register leaves (40_registers.md R203, R210 to R216).
-/

namespace Sys2Proof.Machine
open Sys2Proof.Claims

/-! ### MADR, QWC, TADR, ASR0, ASR1 and SADR -/

/-- QWC keeps the low 16 bits (40_registers.md R203). -/
theorem Chan.write_eq_stored (d : Chan) {r : ChanReg} (hr : r ≠ .chcr) (v : Word) : d.write r v = stored d r v := by
  cases r with
  | chcr => exact absurd rfl hr
  | qwc =>
    have hlow : v.setWidth 16 = v.extractLsb' 0 16 := BitVec.eq_of_toNat_eq (by simp)
    rw [Chan.write, stored, hlow]
  | madr | tadr | asr0 | asr1 | sadr => rfl

/-- Settles O27: the register write is dropped or stores. -/
theorem channelRegisterWrite : Obligations.ChannelRegisterWrite := by
  unfold Obligations.ChannelRegisterWrite
  intro c r v s hr
  rw [exec_swChan, State.chanWrite_of_ne_chcr s c hr]
  refine ⟨fun hbusy => ?busy, fun hidle => ?idle⟩
  case busy => rw [State.chanRegWrite_of_busy hbusy]
  case idle => rw [State.chanRegWrite_of_not_busy hidle, State.updChan, Chan.write_eq_stored _ hr]

/-! ### CHCR of a busy channel -/

theorem exec_swChan_chcr (c : Ch) (v : Word) (s : State) : exec (.swChan c .chcr v) s = .next (s.dmaExec c v) :=
  exec_swChan c .chcr v s

/-- Settles O28: a busy channel goes on or is force-stopped. -/
theorem chcrWriteToBusyChannel : Obligations.ChcrWriteToBusyChannel := by
  unfold Obligations.ChcrWriteToBusyChannel
  intro c v s hbusy
  rw [exec_swChan_chcr]
  refine ⟨fun hv => ?start, fun hv => ?stop⟩
  case start => rw [State.dmaExec_of_busy_start hbusy hv]
  case stop => rw [State.dmaExec_of_busy_stop hbusy hv]; rfl

/-! ### CHCR of an idle channel -/

/-- The modes of 42_channel_engines.md R321. -/
theorem supported_iff_mem_modes (c : Ch) (m : BitVec 2) : supported c m = true ↔ m ∈ modes c := by
  cases c <;> simp [supported, modes, or_assoc]

/-- A start is the model fault of 42_channel_engines.md R322 (log 29). -/
theorem startFaults_iff (p : Params) (c : Ch) (m : BitVec 2) : startFaults p c m = true ↔ unsupported p c m := by
  unfold startFaults unsupported
  rw [← supported_iff_mem_modes]
  cases c.inScope <;> simp

/-- The end mark of a pending source link (41_tag_walker.md R285). -/
theorem endFromCachedTag_srcChain (v : Word) : endFromCachedTag .srcChain v = endsSource v := by
  have hmode : (Mode.srcChain == Mode.dstChain) = false := rfl
  simp [endFromCachedTag, endsSource, chcrId, chcrAsp, chcrTie, chcrIrq, hmode]

/-- The end mark of a pending destination link (41_tag_walker.md R285). -/
theorem endFromCachedTag_dstChain (v : Word) : endFromCachedTag .dstChain v = endsDestination v := by
  have hmode : (Mode.dstChain == Mode.srcChain) = false := rfl
  simp [endFromCachedTag, endsDestination, chcrId, chcrTie, chcrIrq, hmode]

/-- A run in MOD 1 or 3 is a chain, of destination tags on SIF0 and SPR0 (42_channel_engines.md R320). -/
theorem modeOf_chain {c : Ch} {m : BitVec 2} (h0 : m ≠ 0) (h2 : m ≠ 2) :
    modeOf c m = if (c == .sif0 || c == .spr0) = true then .dstChain else .srcChain := by
  rw [modeOf, if_neg h0, if_neg h2]
  simp

/-- The engine a start leaves, by MOD (42_channel_engines.md R320, 41_tag_walker.md R285, R290). -/
theorem State.startedEngine_eq_started (s : State) (c : Ch) :
    s.startedEngine c = started s.params c (s.chan.get c).chcr (s.chan.get c).qwc (s.eng.get c) := by
  unfold State.startedEngine started
  simp only [chcrMod]
  generalize (s.chan.get c).chcr.extractLsb' 2 2 = m
  by_cases h0 : m = 0
  · subst h0; rfl
  by_cases h2 : m = 2
  · subst h2; rfl
  rw [modeOf_chain h0 h2]
  have hm : m = 1 ∨ m = 3 := by revert h0 h2; revert m; decide
  have hpos : (s.chan.get c).qwc.toNat > 0 ↔ ¬ (s.chan.get c).qwc = 0 := by
    rw [gt_iff_lt, Nat.pos_iff_ne_zero, ne_eq, ← BitVec.toNat_inj]
    rfl
  rcases hm with rfl | rfl <;>
  · cases c == .sif0 || c == .spr0
    · simp [hpos, endFromCachedTag_srcChain]
    · simp [hpos, endFromCachedTag_dstChain]

/-- A start in a mode the channel supports sets its engine going (42_channel_engines.md R320, 40_registers.md R215). -/
theorem State.startChannel_of_supported {s : State} {c : Ch}
    (h : ¬ unsupported s.params c ((s.chan.get c).chcr.extractLsb' 2 2)) :
    s.startChannel c = s.updEng c fun e =>
      if c.inScope = true then started s.params c (s.chan.get c).chcr (s.chan.get c).qwc (s.eng.get c)
      else { e with phase := .external } := by
  have hstart : ¬ startFaults s.params c (chcrMod (s.chan.get c).chcr) = true := mt (startFaults_iff ..).mp h
  rw [State.startChannel_eq, if_neg hstart, State.startedEngine_eq_started]

/-- Settles O29: an idle channel commits the value, and with STR starts or queues the start. -/
theorem chcrWriteToIdleChannel : Obligations.ChcrWriteToIdleChannel := by
  unfold Obligations.ChcrWriteToIdleChannel
  intro c v s hidle
  rw [exec_swChan_chcr]
  refine ⟨fun hv => ?stop, fun hv hr => ?queue, fun hv hr hmode => ?start⟩
  case stop => rw [State.dmaExec_of_idle_stop hidle hv]; rfl
  case queue => rw [State.dmaExec_of_idle_start hidle hv, if_neg (mt s.dmacRunnable_iff.mp hr)]; rfl
  case start =>
    have hcommitted : (s.updChan c fun d => { d with chcr := s.coerceMod v }).chan.get c =
        { s.chan.get c with chcr := committed s.params v } := PerChan.get_set_self ..
    rw [State.dmaExec_of_idle_start hidle hv, if_pos (s.dmacRunnable_iff.mpr hr),
      State.startChannel_of_supported (by rw [hcommitted]; exact hmode), hcommitted]
    rfl

end Sys2Proof.Machine
end

section
/-!
PROOFS. O31, O33, O34 and O36: reads of registers and cells, and writes of the global registers and the generic cells
(40_registers.md R201, R204, R230 to R241).
-/

namespace Sys2Proof.Machine
open Sys2Proof.Claims

/-! ### Reads -/

/-- QWC reads with bits 31:16 zero (40_registers.md R201). -/
theorem Chan.read_eq_shown (d : Chan) (r : ChanReg) : d.read r = shown d r := by
  cases r with
  | qwc =>
    refine BitVec.eq_of_toNat_eq ?_
    rw [Chan.read, shown, BitVec.toNat_setWidth_of_le (by omega), BitVec.toNat_append]
    simp
  | chcr | madr | tadr | asr0 | asr1 | sadr => rfl

theorem Globals.read_eq_shownGlobal (g : Globals) (r : GlobalReg) : g.read r = shownGlobal g r := by cases r <;> rfl

theorem exec_lwGen {a : Word} (h : isGeneric a = true) (s : State) :
    exec (.lwGen a) s = .next (s.setRet (.word (s.genRead a))) := if_pos h

/-- Settles O31: each read returns what the register or the cell holds. -/
theorem registerReads : Obligations.RegisterReads := by
  unfold Obligations.RegisterReads
  intro s
  refine ⟨fun c r => ?chan, fun r => ?global, fun a ha => exec_lwGen ha s⟩
  case chan => rw [exec_lwChan, Chan.read_eq_shown]; rfl
  case global => rw [exec_lwGlobal, Globals.read_eq_shownGlobal]; rfl

/-! ### The generic cells -/

theorem exec_swGen {a : Word} (h : isGeneric a = true) (v : Word) (s : State) :
    exec (.swGen a v) s = .next (s.genWrite a v) := if_pos h

theorem State.genRead_genWrite (s : State) (a v b : Word) :
    (s.genWrite a v).genRead b = if b = a then v else s.genRead b := by
  unfold State.genRead State.genWrite
  rw [cellGet_put]
  simp only [BitVec.toNat_inj, eq_comm]

/-- Settles O36: a written cell reads as the value, every other cell as before. -/
theorem genericCellWrite : Obligations.GenericCellWrite := by
  unfold Obligations.GenericCellWrite
  intro a v s ha
  refine ⟨s.genWrite a v, exec_swGen ha v s, rfl, s.genRead_genWrite a v, ?_⟩
  rw [exec_lwGen ha, State.genRead_genWrite, if_pos rfl]
  rfl

/-! ### The global registers -/

/-- The global registers after a host's write of `v` to `r` (40_registers.md R230 to R241). -/
def Globals.write (g : Globals) (r : GlobalReg) (v : Word) : Globals :=
  match r with
  | .ctrl => { g with ctrl := v }
  | .stat => { g with stat := statAfterWrite g.stat v }
  | .pcr => { g with pcr := v }
  | .sqwc => { g with sqwc := v }
  | .rbsr => { g with rbsr := v }
  | .rbor => { g with rbor := v }
  | .stadr => { g with stadr := v }
  | .enabler => g
  | .enablew => { g with enablew := v, enabler := v }

/-- Whether a write of `v` to `r` re-enables the DMAC: DMAE of CTRL rises, or bit 16 of ENABLEW falls (40_registers.md R230,
R240). -/
def Globals.reenables (g : Globals) (r : GlobalReg) (v : Word) : Prop :=
  (r = .ctrl ∧ g.ctrl.getLsbD 0 = false ∧ v.getLsbD 0 = true)
    ∨ (r = .enablew ∧ g.enablew.getLsbD 16 = true ∧ v.getLsbD 16 = false)

/-- A write that re-enables the DMAC stores and then drains the queued starts (40_registers.md R245). -/
theorem State.globalWrite_of_reenables {s : State} {r : GlobalReg} {v : Word} (h : s.g.reenables r v) :
    s.globalWrite r v = (s.setG (s.g.write r v)).drainQueued := by
  obtain ⟨rfl, hrise⟩ | ⟨rfl, hfall⟩ := h
  · exact if_pos hrise
  · exact if_pos hfall

/-- Any other write only stores. -/
theorem State.globalWrite_of_not_reenables {s : State} {r : GlobalReg} {v : Word} (h : ¬ s.g.reenables r v) :
    s.globalWrite r v = s.setG (s.g.write r v) := by
  cases r with
  | ctrl => exact if_neg fun hrise => h (.inl ⟨rfl, hrise⟩)
  | enablew => exact if_neg fun hfall => h (.inr ⟨rfl, hfall⟩)
  | stat | pcr | sqwc | rbsr | rbor | stadr | enabler => rfl

theorem exec_swGlobal_of_not_reenables {s : State} {r : GlobalReg} {v : Word} (h : ¬ s.g.reenables r v) :
    exec (.swGlobal r v) s = .next { s with g := s.g.write r v } := by
  rw [exec_swGlobal, State.globalWrite_of_not_reenables h]
  rfl

/-- Only writes of CTRL and ENABLEW re-enable the DMAC. -/
theorem Globals.not_reenables (g : Globals) {r : GlobalReg} (hctrl : r ≠ .ctrl) (henablew : r ≠ .enablew) (v : Word) :
    ¬ g.reenables r v := by
  rintro (⟨hr, -⟩ | ⟨hr, -⟩)
  · exact hctrl hr
  · exact henablew hr

/-- Settles O33: a write that does not re-enable the DMAC only stores. -/
theorem globalRegisterWrites : Obligations.GlobalRegisterWrites := by
  unfold Obligations.GlobalRegisterWrites
  intro v s
  have hstores {r : GlobalReg} (hctrl : r ≠ .ctrl) (henablew : r ≠ .enablew) :
      exec (.swGlobal r v) s = .next { s with g := s.g.write r v } :=
    exec_swGlobal_of_not_reenables (s.g.not_reenables hctrl henablew v)
  refine ⟨hstores (r := .pcr) nofun nofun, hstores (r := .sqwc) nofun nofun, hstores (r := .rbsr) nofun nofun,
    hstores (r := .rbor) nofun nofun, hstores (r := .stadr) nofun nofun, hstores (r := .enabler) nofun nofun,
    fun hctrl => ?ctrl, fun henablew => ?enablew⟩
  case ctrl =>
    refine exec_swGlobal_of_not_reenables (r := .ctrl) ?_
    rintro (⟨-, hrise⟩ | ⟨hr, -⟩)
    · exact hctrl hrise
    · cases hr
  case enablew =>
    refine exec_swGlobal_of_not_reenables (r := .enablew) ?_
    rintro (⟨hr, -⟩ | ⟨-, hfall⟩)
    · cases hr
    · exact henablew hfall

/-- STAT after a write, bit by bit (40_registers.md R232). -/
theorem getLsbD_statAfterWrite (stat v : Word) {b : Nat} (hb : b < 32) :
    (statAfterWrite stat v).getLsbD b =
      if b < 16 then stat.getLsbD b && !v.getLsbD b else Bool.xor (stat.getLsbD b) (v.getLsbD b) := by
  rw [statAfterWrite, BitVec.getLsbD_append]
  split
  · next hlow => simp [hlow]
  · next hhigh =>
    have hsub : b - 16 < 16 := by omega
    have hadd : 16 + (b - 16) = b := by omega
    simp [hsub, hadd]

/-- Settles O34: the write only stores, and what it stores is known bit by bit. -/
theorem statWrite : Obligations.StatWrite := by
  unfold Obligations.StatWrite
  intro v s
  exact ⟨statAfterWrite s.g.stat v, exec_swGlobal_of_not_reenables (s.g.not_reenables (r := .stat) nofun nofun v),
    fun _ => getLsbD_statAfterWrite s.g.stat v⟩

end Sys2Proof.Machine
end

section
/-!
PROOFS. O25 and O35: what the drain of the queued starts does to each channel, and what the register writes leave unchanged.
-/

namespace Sys2Proof.Machine
open Sys2Proof.Claims

/-! ### The drain -/

/-- The drain starts a channel that is queued and busy, if the DMAC is runnable (40_registers.md R245). -/
theorem State.drains_iff (s : State) (c : Ch) :
    s.drains c = true ↔ s.isQueued c = true ∧ busy s c ∧ runnable s.g := by
  rw [State.drains, Bool.and_eq_true, Bool.and_eq_true, State.dmacRunnable_iff, and_assoc]
  rfl

/-- A drained channel is no longer queued, and its start sees the registers and the engine as they were (40_registers.md
R245). -/
theorem State.drainQueued_of_drains {s : State} {c : Ch} (h : s.drains c = true) :
    s.drainQueued.isQueued c = false
      ∧ ∃ t : State, t.chan = s.chan ∧ t.params = s.params ∧ t.eng.get c = s.eng.get c
          ∧ s.drainQueued.eng.get c = (t.startChannel c).eng.get c := by
  obtain ⟨t, heng, hqueued, hchan, hg, hparams, heng', hqueued', -⟩ := s.drainQueued_at c
  have ht : t.drains c = true := by
    rw [State.drains_iff] at h ⊢
    unfold busy at h ⊢
    rwa [hqueued, hchan, hg]
  rw [State.drainOne_of_drains ht] at heng' hqueued'
  refine ⟨?_, t.setQueued c false, hchan, hparams, heng, heng'⟩
  rw [hqueued', State.isQueued_startChannel, State.isQueued_setQueued, if_pos rfl]

/-- The drain leaves every other channel. -/
theorem State.drainQueued_of_not_drains {s : State} {c : Ch} (h : s.drains c = false) :
    s.drainQueued.isQueued c = s.isQueued c ∧ s.drainQueued.eng.get c = s.eng.get c := by
  obtain ⟨t, heng, hqueued, hchan, hg, -, heng', hqueued', -⟩ := s.drainQueued_at c
  have ht : t.drains c = false := by
    rw [Bool.eq_false_iff, ne_eq, State.drains_iff] at h ⊢
    unfold busy at h ⊢
    rwa [hqueued, hchan, hg]
  rw [State.drainOne_of_not_drains ht] at heng' hqueued'
  exact ⟨hqueued'.trans hqueued, heng'.trans heng⟩

/-- A start in a mode the channel does not support leaves every engine (42_channel_engines.md R322). -/
theorem State.startChannel_eng_of_unsupported {s : State} {c : Ch}
    (h : unsupported s.params c ((s.chan.get c).chcr.extractLsb' 2 2)) : (s.startChannel c).eng = s.eng := by
  have hstart : startFaults s.params c (chcrMod (s.chan.get c).chcr) = true := (startFaults_iff ..).mpr h
  rw [State.startChannel_eq, if_pos hstart, State.addFault_eng]

/-- The engine of a channel after its start in a mode it supports. -/
theorem State.startChannel_eng_self {s : State} {c : Ch}
    (h : ¬ unsupported s.params c ((s.chan.get c).chcr.extractLsb' 2 2)) :
    (s.startChannel c).eng.get c =
      if c.inScope = true then started s.params c (s.chan.get c).chcr (s.chan.get c).qwc (s.eng.get c)
      else { s.eng.get c with phase := .external } := by
  rw [State.startChannel_of_supported h, State.updEng_eng, PerChan.get_set_self]

theorem State.drainQueued_drained (s : State) : Drained (runnable s.g) s s.drainQueued := by
  refine ⟨fun c => ⟨fun hd => ?drained, fun hd => ?other⟩, fun x => ?faults⟩
  case drained =>
    obtain ⟨hqueued, t, hchan, hparams, heng, heng'⟩ := State.drainQueued_of_drains ((s.drains_iff c).mpr hd)
    rw [heng', ← heng, ← hchan, ← hparams]
    refine ⟨hqueued, fun hmode => ?unsupported, fun hmode hc => ?external, fun hmode hc => ?started⟩
    case unsupported => rw [State.startChannel_eng_of_unsupported hmode]
    case external => rw [State.startChannel_eng_self hmode, if_neg (by simp [hc])]
    case started => rw [State.startChannel_eng_self hmode, if_pos hc]
  case other =>
    exact State.drainQueued_of_not_drains (Bool.eq_false_iff.mpr (mt (s.drains_iff c).mp hd))
  case faults =>
    simp only [State.mem_drainQueued_faults_iff, State.drains_iff, startFaults_iff, chcrMod, and_assoc]

/-- Nothing of the state has changed but the engines, the queued bits and the fault records. -/
def DrainUpdates (s t : State) : Prop := t = { s with eng := t.eng, queued := t.queued, faults := t.faults }

theorem DrainUpdates.drainOne {s t : State} (h : DrainUpdates s t) (c : Ch) : DrainUpdates s (t.drainOne c) := by
  unfold DrainUpdates at h ⊢
  cases hd : t.drains c
  · rwa [State.drainOne_of_not_drains hd]
  · rw [State.drainOne_of_drains hd, State.startChannel_eq, h]
    split
    · rfl
    · rfl

theorem State.drainUpdates_drainQueued (s : State) : DrainUpdates s s.drainQueued :=
  List.foldlRecOn Ch.all State.drainOne rfl fun _ h c _ => h.drainOne c

/-- A write that re-enables the DMAC stores and drains the queue, if the DMAC is then runnable. -/
theorem exec_swGlobal_of_reenables {s : State} {r : GlobalReg} {v : Word} (h : s.g.reenables r v) :
    ∃ s' : State, exec (.swGlobal r v) s = .next s'
      ∧ s' = { s with g := s.g.write r v, eng := s'.eng, queued := s'.queued, faults := s'.faults }
      ∧ Drained (runnable (s.g.write r v)) s s' := by
  refine ⟨(s.setG (s.g.write r v)).drainQueued, ?_, State.drainUpdates_drainQueued _,
    State.drainQueued_drained (s.setG (s.g.write r v))⟩
  rw [exec_swGlobal, State.globalWrite_of_reenables h]

/-- Settles O35: after the write the DMAC is runnable exactly if the other register lets it be. -/
theorem reenableDrainsTheQueue : Obligations.ReenableDrainsTheQueue := by
  unfold Obligations.ReenableDrainsTheQueue
  refine ⟨fun v s hbefore hafter => ?ctrl, fun v s hbefore hafter => ?enablew⟩
  case ctrl =>
    have hr : runnable (s.g.write .ctrl v) ↔ s.g.enabler.getLsbD 16 = false := and_iff_right hafter
    exact propext hr ▸ exec_swGlobal_of_reenables (.inl ⟨rfl, hbefore, hafter⟩)
  case enablew =>
    have hr : runnable (s.g.write .enablew v) ↔ s.g.ctrl.getLsbD 0 = true := and_iff_left hafter
    exact propext hr ▸ exec_swGlobal_of_reenables (.inr ⟨rfl, hbefore, hafter⟩)

/-! ### The frames -/

theorem State.globalWrite_g (s : State) (r : GlobalReg) (v : Word) : (s.globalWrite r v).g = s.g.write r v := by
  by_cases h : s.g.reenables r v
  · rw [State.globalWrite_of_reenables h, State.drainQueued_g, State.setG_g]
  · rw [State.globalWrite_of_not_reenables h, State.setG_g]

/-- A write leaves every other global register, but for ENABLER, which follows ENABLEW (40_registers.md R240). -/
theorem Globals.shownGlobal_write (g : Globals) {r k : GlobalReg} (v : Word) (hk : k ≠ r)
    (henabler : ¬ (r = .enablew ∧ k = .enabler)) : shownGlobal (g.write r v) k = shownGlobal g k := by
  cases r with
  | enablew =>
    cases k with
    | enablew => exact absurd rfl hk
    | enabler => exact absurd ⟨rfl, rfl⟩ henabler
    | _ => rfl
  | _ => cases k <;> first | rfl | exact absurd rfl hk

/-- A channel that is not queued is not started by a write of a global register. -/
theorem State.globalWrite_of_not_queued {s : State} {c : Ch} (h : s.isQueued c = false) (r : GlobalReg) (v : Word) :
    (s.globalWrite r v).eng.get c = s.eng.get c ∧ (s.globalWrite r v).isQueued c = false := by
  by_cases hr : s.g.reenables r v
  · rw [State.globalWrite_of_reenables hr]
    have hd : (s.setG (s.g.write r v)).drains c = false := by
      rw [Bool.eq_false_iff, ne_eq, State.drains_iff]
      exact fun hq => Bool.false_ne_true (h.symm.trans hq.1)
    obtain ⟨hqueued, heng⟩ := State.drainQueued_of_not_drains hd
    exact ⟨heng, hqueued.trans h⟩
  · rw [State.globalWrite_of_not_reenables hr]
    exact ⟨rfl, h⟩

/-- Settles O25, one kind of register at a time. -/
theorem registerWriteFrame : Obligations.RegisterWriteFrame := by
  unfold Obligations.RegisterWriteFrame
  refine ⟨fun c r v s s' h => ?chan, fun r v s s' h => ?global, fun a v s s' ha h => ?generic⟩
  case chan =>
    rw [exec_swChan] at h
    cases h
    refine ⟨fun k hk => ?_, by simp, by simp, by simp, by simp, sameBytes_of_mem (by simp), by simp, by simp, by simp⟩
    obtain ⟨hchan, heng, hqueued, hev⟩ := touches_chanWrite s c r v k hk
    exact ⟨hchan, heng, hev, hqueued⟩
  case global =>
    rw [exec_swGlobal] at h
    cases h
    refine ⟨by simp, by simp, by simp, fun k hk henabler => ?_, fun c hq => State.globalWrite_of_not_queued hq r v,
      by simp, by simp, sameBytes_of_mem (by simp), by simp, by simp, by simp⟩
    rw [State.globalWrite_g, Globals.shownGlobal_write _ v hk henabler]
  case generic =>
    rw [exec_swGen ha] at h
    cases h
    refine ⟨rfl, fun b hb => ?_, sameBytes_of_mem rfl⟩
    rw [State.genRead_genWrite, if_neg hb]

end Sys2Proof.Machine
end

section
/-!
PROOFS. O37, O38, O39, O40: what the rule of each source tag leaves in its channel, and the stall of REFS (41_tag_walker.md
R261 to R272, R280, R295).
-/

namespace Sys2Proof.Machine
open Sys2Proof.Claims

/-! ### CHCR after a tag -/

/-- The low half of CHCR with another stack pointer. -/
theorem getLsbD_low_withAsp (v : Word) (asp : BitVec 2) {i : Nat} (hi : i < 16) :
    (v.extractLsb' 6 10 ++ (asp ++ v.extractLsb' 0 4)).getLsbD i =
      if 4 ≤ i ∧ i < 6 then asp.getLsbD (i - 4) else v.getLsbD i := by
  simp only [BitVec.getLsbD_append, BitVec.getLsbD_extractLsb']
  interval_cases i <;> simp

theorem getLsbD_chcrAfter (v : Word) (id : BitVec 3) (t : Tag) (asp : BitVec 2) (i : Nat) :
    (chcrAfter v id t asp).getLsbD i =
      if i < 16 then if 4 ≤ i ∧ i < 6 then asp.getLsbD (i - 4) else v.getLsbD i else (t.tagH id).getLsbD (i - 16) := by
  unfold chcrAfter
  rw [BitVec.getLsbD_append]
  by_cases hi : i < 16
  · rw [if_pos hi, if_pos hi]
    exact getLsbD_low_withAsp v asp hi
  · rw [if_neg hi, if_neg hi]
    rfl

/-- A rule that moves the stack pointer (41_tag_walker.md R270, R271, R281). -/
theorem chcrWithAsp_withTag (v : Word) (id : BitVec 3) (t : Tag) (asp : BitVec 2) :
    chcrWithAsp (chcrWithTag v (t.tagH id)) asp = chcrAfter v id t asp := by
  apply BitVec.eq_of_getLsbD_eq
  intro i _
  rw [getLsbD_chcrWithAsp, getLsbD_chcrWithTag, getLsbD_chcrAfter]
  by_cases hi : i < 16
  · rw [if_pos hi, if_pos hi]
  · rw [if_neg hi, if_neg hi, if_neg (by omega)]

/-- A rule that leaves the stack pointer (41_tag_walker.md R281). -/
theorem chcrWithTag_eq_after (v : Word) (id : BitVec 3) (t : Tag) :
    chcrWithTag v (t.tagH id) = chcrAfter v id t (v.extractLsb' 4 2) := by
  apply BitVec.eq_of_getLsbD_eq
  intro i _
  rw [getLsbD_chcrWithTag, getLsbD_chcrAfter, BitVec.getLsbD_extractLsb']
  by_cases hasp : 4 ≤ i ∧ i < 6
  · rw [if_pos hasp, show 4 + (i - 4) = i by omega, decide_eq_true (by omega), Bool.true_and]
  · rw [if_neg hasp]

/-! ### What a rule makes of its channel -/

/-- The registers of a channel with a tag loaded, before the rule of its ID (41_tag_walker.md R261). -/
def Chan.loaded (d : Chan) (id : BitVec 3) (t : Tag) : Chan :=
  { d with chcr := chcrWithTag d.chcr (t.tagH id), qwc := t.qwc, madr := t.a }

/-- The registers of a channel with another SADR. -/
def Chan.withSadr (a : Word) (d : Chan) : Chan := { d with sadr := a }

/-- The registers that a rule leaves stand in the channel after the tag. The rule is asked about states with the tag loaded:
it reads the stack pointer and the count of draws, which the load leaves. -/
theorem State.takeSrcTag_after {s : State} {c : SrcCh} {id : BitVec 3} {t : Tag} {rule : IdRule} {f : Chan → Chan}
    {last : Bool} {e : Env} {madr tadr asr0 asr1 : Word} {asp : BitVec 2}
    (hrule : ∀ s1 : State, s1.env = s.env → chcrAsp (s1.chan.get c.toCh).chcr = chcrAsp (s.chan.get c.toCh).chcr →
      rule c.toCh (s.chan.get c.toCh).tadr t s1 = (({ s1 with env := e } : State).updChan c.toCh f, last))
    (htie : ∀ d, chcrTie (f d).chcr = chcrTie d.chcr)
    (hf : f ((s.chan.get c.toCh).loaded id t) =
      { chcr := chcrAfter (s.chan.get c.toCh).chcr id t asp, madr := madr, qwc := t.qwc, tadr := tadr
        asr0 := asr0, asr1 := asr1, sadr := (s.chan.get c.toCh).sadr }) :
    AfterSrcTag c id t s (s.takeSrcTag c id t rule) madr tadr asr0 asr1 asp last := by
  obtain ⟨hchan, heng⟩ := s.takeSrcTag_self c id t rule f last e hrule htie
  exact ⟨hchan.trans (congrArg (Chan.withSadr ((s.takeSrcTag c id t rule).chan.get c.toCh).sadr) hf), heng⟩

/-- The same of a rule that takes no draw. -/
theorem State.takeSrcTag_after_of_no_draw {s : State} {c : SrcCh} {id : BitVec 3} {t : Tag} {rule : IdRule}
    {f : Chan → Chan} {last : Bool} {madr tadr asr0 asr1 : Word} {asp : BitVec 2}
    (hrule : ∀ s1 : State, chcrAsp (s1.chan.get c.toCh).chcr = chcrAsp (s.chan.get c.toCh).chcr →
      rule c.toCh (s.chan.get c.toCh).tadr t s1 = (s1.updChan c.toCh f, last))
    (htie : ∀ d, chcrTie (f d).chcr = chcrTie d.chcr)
    (hf : f ((s.chan.get c.toCh).loaded id t) =
      { chcr := chcrAfter (s.chan.get c.toCh).chcr id t asp, madr := madr, qwc := t.qwc, tadr := tadr
        asr0 := asr0, asr1 := asr1, sadr := (s.chan.get c.toCh).sadr }) :
    AfterSrcTag c id t s (s.takeSrcTag c id t rule) madr tadr asr0 asr1 asp last :=
  State.takeSrcTag_after (e := s.env) (fun s1 he hasp => by rw [hrule s1 hasp, ← he]) htie hf

/-- A rule that leaves the address stack sets MADR and TADR. -/
theorem State.takeSrcTag_afterPlain {s : State} {c : SrcCh} {id : BitVec 3} {t : Tag} {rule : IdRule} {last : Bool}
    (madr tadr : Chan → Word)
    (hrule : ∀ s1 : State, chcrAsp (s1.chan.get c.toCh).chcr = chcrAsp (s.chan.get c.toCh).chcr →
      rule c.toCh (s.chan.get c.toCh).tadr t s1 =
        (s1.updChan c.toCh fun d => { d with madr := madr d, tadr := tadr d }, last)) :
    AfterPlainTag c id t s (s.takeSrcTag c id t rule) (madr ((s.chan.get c.toCh).loaded id t))
      (tadr ((s.chan.get c.toCh).loaded id t)) last :=
  State.takeSrcTag_after_of_no_draw hrule (fun _ => rfl) (by rw [← chcrWithTag_eq_after]; rfl)

/-! ### REFE, CNT, NEXT, REF and END -/

/-- Settles O37: each of the five rules sets MADR and TADR and leaves the address stack. -/
theorem plainSourceTags : Obligations.PlainSourceTags := by
  unfold Obligations.PlainSourceTags
  intro c t s T
  refine ⟨⟨_, rfl, ?refe⟩, ⟨_, rfl, ?cnt⟩, ⟨_, rfl, ?next⟩, ⟨_, rfl, ?ref⟩, ⟨_, rfl, ?last⟩⟩
  case refe => exact State.takeSrcTag_afterPlain Chan.madr (fun _ => T + 16) fun _ _ => rfl
  case cnt => exact State.takeSrcTag_afterPlain (fun _ => T + 16) (fun _ => afterLink T t) fun _ _ => rfl
  case next => exact State.takeSrcTag_afterPlain (fun _ => T + 16) (fun _ => t.a) fun _ _ => rfl
  case ref => exact State.takeSrcTag_afterPlain Chan.madr (fun _ => T + 16) fun _ _ => rfl
  case last => exact State.takeSrcTag_afterPlain (fun _ => T + 16) Chan.tadr fun _ _ => rfl

/-! ### REFS -/

/-- `StallDrain` is SIF1 exactly when STD is 3 (30_encoding.md R171). -/
theorem stallDrain_eq_sif1_iff (ctrl : Word) : stallDrain ctrl = some .sif1 ↔ ctrl.extractLsb' 6 2 = 3 := by
  unfold stallDrain ctrlStd
  generalize ctrl.extractLsb' 6 2 = std
  revert std
  decide

/-- Bits 30:0 of an address are its value modulo 2^31. -/
theorem toNat_and_low31 (a : Word) : (a &&& 0x7FFFFFFF).toNat = a.toNat % 2 ^ 31 := by
  rw [BitVec.toNat_and]
  exact Nat.and_two_pow_sub_one_eq_mod a.toNat 31

theorem State.stallBlocked_iff (s : State) (a : Word) (q : BitVec 16) :
    s.stallBlocked a q = true ↔ s.g.stadr.toNat % 2 ^ 31 < a.toNat % 2 ^ 31 + 16 * q.toNat := by
  unfold State.stallBlocked
  rw [decide_eq_true_iff, toNat_and_low31, toNat_and_low31]

/-- The guard of the stall is the statement's condition (41_tag_walker.md R266, R295). -/
theorem stalls_iff (c : SrcCh) (t : Tag) (s : State) :
    stalls c t s ↔ stallDrain s.g.ctrl = some c.toCh ∧ s.stallBlocked t.a t.qwc = true := by
  rw [State.stallBlocked_iff]
  constructor
  · rintro ⟨rfl, hstd, hpast⟩
    exact ⟨(stallDrain_eq_sif1_iff _).mpr hstd, hpast⟩
  · rintro ⟨hdrain, hpast⟩
    obtain rfl := stallDrain_srcCh hdrain
    exact ⟨rfl, (stallDrain_eq_sif1_iff _).mp hdrain, hpast⟩

theorem exec_srcRefs_of_stalls {c : SrcCh} {t : Tag} {s : State} (h : stalls c t s) :
    exec (.srcRefs c t) s = .next (s.stallEnter c.toCh) :=
  if_pos ((stalls_iff c t s).mp h)

/-- A REFS tag that does not stall is taken by the rule of REF. -/
theorem exec_srcRefs_of_not_stalls {c : SrcCh} {t : Tag} {s : State} (h : ¬ stalls c t s) :
    exec (.srcRefs c t) s = .next (s.takeSrcTag c 4 t ruleRef) :=
  if_neg fun hguard => h ((stalls_iff c t s).mpr hguard)

/-- A running machine's step on an engine's action is the engine's move. -/
theorem step_of_engineMove {s : State} {rest : List Action} {c : Ch} {n : Nat} {r : Result} (hs : s.running)
    (h : (withAgenda s rest).engineMove c n = .done r) : step (withAgenda s (.engine c n :: rest)) = r :=
  (step_withAgenda_cons hs _ rest).trans (congrArg Move.result h)

/-- A stalled engine of a runnable DMAC fetches its tag again (41_tag_walker.md R295). -/
theorem State.engineMove_of_stalled {s : State} {c : Ch} (hr : runnable s.g) (hp : (s.eng.get c).phase = .stalled)
    (n : Nat) : s.engineMove c n = .done (.next (s.updEng c fun e => { e with phase := .tagFetch })) := by
  unfold State.engineMove
  rw [if_pos (s.dmacRunnable_iff.mpr hr), hp]

/-- Settles O38, by the stall condition. -/
theorem refsStallsOrRefers : Obligations.RefsStallsOrRefers := by
  unfold Obligations.RefsStallsOrRefers
  refine ⟨fun c t s => ⟨fun h => exec_srcRefs_of_stalls h, fun h => ⟨_, exec_srcRefs_of_not_stalls h, ?_⟩⟩, ?_⟩
  · exact State.takeSrcTag_afterPlain Chan.madr (fun _ => (s.chan.get c.toCh).tadr + 16) fun _ _ => rfl
  · intro s rest c n hs hr hp
    exact step_of_engineMove hs (State.engineMove_of_stalled (s := withAgenda s rest) hr hp n)

/-! ### CALL and RET -/

/-- The registers after CALL pushed the first address (41_tag_walker.md R270). -/
def Chan.pushed0 (T : Word) (t : Tag) (d : Chan) : Chan :=
  { d with madr := T + 16, asr0 := afterLink T t, chcr := chcrWithAsp d.chcr 1, tadr := t.a }

/-- The registers after CALL pushed the second address. -/
def Chan.pushed1 (T : Word) (t : Tag) (d : Chan) : Chan :=
  { d with madr := T + 16, asr1 := afterLink T t, chcr := chcrWithAsp d.chcr 2, tadr := t.a }

/-- The registers after RET popped the second address, whose register then holds `w` (41_tag_walker.md R271). -/
def Chan.popped1 (T w : Word) (d : Chan) : Chan :=
  { d with madr := T + 16, tadr := d.asr1, chcr := chcrWithAsp d.chcr 1, asr1 := w }

/-- The registers after RET popped the first address. -/
def Chan.popped0 (T w : Word) (d : Chan) : Chan :=
  { d with madr := T + 16, tadr := d.asr0, chcr := chcrWithAsp d.chcr 0, asr0 := w }

/-- A draw is the same in every state with the same count of draws. -/
theorem State.draw_of_env_eq {s u : State} (h : u.env = s.env) : u.draw = (s.draw.1, { u with env := s.draw.2.env }) := by
  unfold State.draw
  rw [h]

section
variable {c : Ch} {s : State} (T : Word) (t : Tag)

theorem ruleCall_of_asp0 (h : chcrAsp (s.chan.get c).chcr = 0) :
    ruleCall c T t s = (s.updChan c (Chan.pushed0 T t), false) := by
  unfold ruleCall
  rw [h]
  rfl

theorem ruleCall_of_asp1 (h : chcrAsp (s.chan.get c).chcr = 1) :
    ruleCall c T t s = (s.updChan c (Chan.pushed1 T t), false) := by
  unfold ruleCall
  rw [h]
  rfl

/-- A full stack takes no address. -/
theorem ruleCall_of_full (h : chcrAsp (s.chan.get c).chcr = 2 ∨ chcrAsp (s.chan.get c).chcr = 3) :
    ruleCall c T t s = (s.updChan c fun d => { d with madr := T + 16 }, true) := by
  unfold ruleCall
  obtain h | h := h
  · rw [h]; rfl
  · rw [h]; rfl

theorem ruleRet_of_asp2 (h : chcrAsp (s.chan.get c).chcr = 2) :
    ruleRet c T t s = (s.draw.2.updChan c (Chan.popped1 T s.draw.1), false) := by
  unfold ruleRet
  rw [h]
  rfl

theorem ruleRet_of_asp1 (h : chcrAsp (s.chan.get c).chcr = 1) :
    ruleRet c T t s = (s.draw.2.updChan c (Chan.popped0 T s.draw.1), false) := by
  unfold ruleRet
  rw [h]
  rfl

/-- An empty stack gives no address. -/
theorem ruleRet_of_empty (h : chcrAsp (s.chan.get c).chcr = 0 ∨ chcrAsp (s.chan.get c).chcr = 3) :
    ruleRet c T t s = (s.updChan c fun d => { d with madr := T + 16 }, true) := by
  unfold ruleRet
  obtain h | h := h
  · rw [h]; rfl
  · rw [h]; rfl

end

/-- Settles O39, by the cases of ASP. -/
theorem callPushes : Obligations.CallPushes := by
  unfold Obligations.CallPushes
  intro c t s d
  refine ⟨s.takeSrcTag c 5 t ruleCall, rfl, fun hasp => ?push0, fun hasp => ?push1, fun hasp => ?full⟩
  case push0 =>
    exact State.takeSrcTag_after_of_no_draw (fun s1 hs1 => ruleCall_of_asp0 _ t (hs1.trans hasp))
      (fun d => chcrTie_withAsp d.chcr 1) (by rw [← chcrWithAsp_withTag]; rfl)
  case push1 =>
    exact State.takeSrcTag_after_of_no_draw (fun s1 hs1 => ruleCall_of_asp1 _ t (hs1.trans hasp))
      (fun d => chcrTie_withAsp d.chcr 2) (by rw [← chcrWithAsp_withTag]; rfl)
  case full =>
    exact State.takeSrcTag_afterPlain (fun _ => d.tadr + 16) Chan.tadr fun s1 hs1 =>
      ruleCall_of_full _ t (by rw [hs1]; exact hasp)

/-- Settles O40, by the cases of ASP. -/
theorem retPops : Obligations.RetPops := by
  unfold Obligations.RetPops
  intro c t s d
  refine ⟨s.takeSrcTag c 6 t ruleRet, rfl, fun hasp => ?pop1, fun hasp => ?pop0, fun hasp => ?empty⟩
  case pop1 =>
    have h : AfterSrcTag c 6 t s (s.takeSrcTag c 6 t ruleRet) (d.tadr + 16) d.asr1 d.asr0 s.draw.1 1 false :=
      State.takeSrcTag_after (e := s.draw.2.env) (f := Chan.popped1 d.tadr s.draw.1)
        (fun s1 henv hs1 => by rw [ruleRet_of_asp2 _ t (hs1.trans hasp), State.draw_of_env_eq henv])
        (fun d => chcrTie_withAsp d.chcr 1) (by rw [← chcrWithAsp_withTag]; rfl)
    have hpopped : ((s.takeSrcTag c 6 t ruleRet).chan.get c.toCh).asr1 = s.draw.1 := congrArg Chan.asr1 h.1
    rw [hpopped]
    exact h
  case pop0 =>
    have h : AfterSrcTag c 6 t s (s.takeSrcTag c 6 t ruleRet) (d.tadr + 16) d.asr0 s.draw.1 d.asr1 0 false :=
      State.takeSrcTag_after (e := s.draw.2.env) (f := Chan.popped0 d.tadr s.draw.1)
        (fun s1 henv hs1 => by rw [ruleRet_of_asp1 _ t (hs1.trans hasp), State.draw_of_env_eq henv])
        (fun d => chcrTie_withAsp d.chcr 0) (by rw [← chcrWithAsp_withTag]; rfl)
    have hpopped : ((s.takeSrcTag c 6 t ruleRet).chan.get c.toCh).asr0 = s.draw.1 := congrArg Chan.asr0 h.1
    rw [hpopped]
    exact h
  case empty =>
    exact State.takeSrcTag_afterPlain (fun _ => d.tadr + 16) Chan.tadr fun s1 hs1 =>
      ruleRet_of_empty _ t (by rw [hs1]; exact hasp)

end Sys2Proof.Machine
end

section
/-!
PROOFS. O26, O41: what a source tag leaves unchanged, and what the sending of the tag does (41_tag_walker.md R261, R282).
-/

namespace Sys2Proof.Machine
open Sys2Proof.Claims

/-! ### The tags of a channel -/

/-- A source tag that does not stall is taken by the rule of its ID. -/
theorem exec_of_mem_srcTags {c : SrcCh} {t : Tag} {i : Instr} {s : State} (hi : i ∈ srcTags c t)
    (hs : ¬ (i = .srcRefs c t ∧ stalls c t s)) :
    ∃ id rule, SrcRule id rule ∧ encode i = leBytes 16 (t.quad id) ∧ exec i s = .next (s.takeSrcTag c id t rule) := by
  simp only [srcTags, List.mem_cons, List.not_mem_nil, or_false] at hi
  obtain rfl | rfl | rfl | rfl | rfl | rfl | rfl | rfl := hi
  · exact ⟨_, _, .refe, rfl, rfl⟩
  · exact ⟨_, _, .cnt, rfl, rfl⟩
  · exact ⟨_, _, .next, rfl, rfl⟩
  · exact ⟨_, _, .ref, rfl, rfl⟩
  · exact ⟨_, _, .refs, rfl, exec_srcRefs_of_not_stalls fun h => hs ⟨rfl, h⟩⟩
  · exact ⟨_, _, .call, rfl, rfl⟩
  · exact ⟨_, _, .ret, rfl, rfl⟩
  · exact ⟨_, _, .last, rfl, rfl⟩

/-! ### The sending of a tag -/

theorem State.tteAction_of_not_tte {s : State} {c : SrcCh} (h : chcrTte (s.chan.get c.toCh).chcr = false) (q : Quad) :
    s.tteAction c q = s := by
  unfold State.tteAction
  rw [if_neg (by simp [h])]

/-- IPU1 sends no tag (41_tag_walker.md R282). -/
theorem State.tteAction_ipu1 (s : State) (q : Quad) : s.tteAction .ipu1 q = s := ite_self s

theorem State.tteAction_spr1 {s : State} (h : chcrTte (s.chan.get .spr1).chcr = true) (q : Quad) :
    s.tteAction .spr1 q = (s.memWrite .spr (sprOffset (s.chan.get .spr1).sadr) 16 q).advanceSadr .spr1 := if_pos h

theorem State.tteAction_sif1 {s : State} (h : chcrTte (s.chan.get .sif1).chcr = true) (q : Quad) :
    s.tteAction .sif1 q = s.sifPush .sif1 [wordOf q 2, wordOf q 3] := if_pos h

/-- Sending a tag changes its channel's registers, the memories, the FIFOs and the fault records, nothing else. -/
theorem State.tteAction_updates (s : State) (c : SrcCh) (q : Quad) :
    s.tteAction c q =
      { s with
        chan := (s.tteAction c q).chan, mem := (s.tteAction c q).mem, sif := (s.tteAction c q).sif
        faults := (s.tteAction c q).faults } := by
  unfold State.tteAction State.sifPush
  split
  · cases c with
    | ipu1 | spr1 => rfl
    | sif1 => simp only []; split <;> rfl
  · rfl

/-- What is sent does not depend on what the tag leaves elsewhere: two states with the same memories, FIFOs, records and
parameters, and the same TTE and SADR in the channel, send alike. -/
theorem State.tteAction_congr {s u : State} {c : SrcCh} (q : Quad) (hmem : u.mem = s.mem) (hsif : u.sif = s.sif)
    (hfaults : u.faults = s.faults) (hparams : u.params = s.params)
    (htte : chcrTte (u.chan.get c.toCh).chcr = chcrTte (s.chan.get c.toCh).chcr)
    (hsadr : (u.chan.get c.toCh).sadr = (s.chan.get c.toCh).sadr) :
    (u.tteAction c q).mem = (s.tteAction c q).mem ∧ (u.tteAction c q).sif = (s.tteAction c q).sif
      ∧ (u.tteAction c q).faults = (s.tteAction c q).faults
      ∧ ((u.tteAction c q).chan.get c.toCh).sadr = ((s.tteAction c q).chan.get c.toCh).sadr := by
  by_cases h : chcrTte (s.chan.get c.toCh).chcr = true
  · have hu := htte.trans h
    cases c with
    | ipu1 =>
      rw [State.tteAction_ipu1, State.tteAction_ipu1]
      exact ⟨hmem, hsif, hfaults, hsadr⟩
    | sif1 =>
      have hfree : u.sifFree .sif1 = s.sifFree .sif1 := by simp only [State.sifFree, State.sifSize, hparams, hsif]
      rw [State.tteAction_sif1 h, State.tteAction_sif1 hu]
      unfold State.sifPush
      rw [hfree]
      split
      · exact ⟨hmem, hsif, by simp only [State.addFault, hfaults], hsadr⟩
      · exact ⟨hmem, by simp only [State.updSif_sif, hsif], hfaults, hsadr⟩
    | spr1 =>
      simp only [SrcCh.toCh] at hsadr
      rw [State.tteAction_spr1 h, State.tteAction_spr1 hu]
      refine ⟨?_, hsif, hfaults, ?_⟩
      · simp only [State.advanceSadr_mem, State.memWrite_mem, hmem, hsadr]
      · simp [SrcCh.toCh, State.advanceSadr, hsadr]
  · rw [Bool.not_eq_true] at h
    rw [State.tteAction_of_not_tte h, State.tteAction_of_not_tte (htte.trans h)]
    exact ⟨hmem, hsif, hfaults, hsadr⟩

section
variable (s : State) (c : SrcCh) {id : BitVec 3} (t : Tag) {rule : IdRule} (hrule : SrcRule id rule)
include hrule

/-- A source tag sends its quadword as the state before it would (41_tag_walker.md R282). -/
theorem State.takeSrcTag_sends :
    (s.takeSrcTag c id t rule).mem = (s.tteAction c (t.quad id)).mem
      ∧ (s.takeSrcTag c id t rule).sif = (s.tteAction c (t.quad id)).sif
      ∧ (s.takeSrcTag c id t rule).faults = (s.tteAction c (t.quad id)).faults
      ∧ ((s.takeSrcTag c id t rule).chan.get c.toCh).sadr = ((s.tteAction c (t.quad id)).chan.get c.toCh).sadr := by
  generalize hloaded : (s.updChan c.toCh fun d => d.loaded id t) = u
  have hframe := hrule.updates c.toCh (s.chan.get c.toCh).tadr t u
  obtain ⟨-, htte, -, hsadr⟩ := hrule.chcr c.toCh (s.chan.get c.toCh).tadr t u
  have hu : chcrTte (u.chan.get c.toCh).chcr = chcrTte (s.chan.get c.toCh).chcr
      ∧ (u.chan.get c.toCh).sadr = (s.chan.get c.toCh).sadr ∧ u.mem = s.mem ∧ u.sif = s.sif ∧ u.faults = s.faults
      ∧ u.params = s.params := by
    subst hloaded
    simp [Chan.loaded]
  obtain ⟨hutte, husadr, humem, husif, hufaults, huparams⟩ := hu
  unfold Chan.loaded at hloaded
  simp only [State.takeSrcTag, hloaded]
  exact State.tteAction_congr _ ((congrArg State.mem hframe).trans humem) ((congrArg State.sif hframe).trans husif)
    ((congrArg State.faults hframe).trans hufaults) ((congrArg State.params hframe).trans huparams)
    (htte.trans hutte) (hsadr.trans husadr)

/-- A source tag changes no field but the registers, the engines, what is sent, and the count of draws. -/
theorem State.takeSrcTag_frame :
    (s.takeSrcTag c id t rule).g = s.g ∧ (s.takeSrcTag c id t rule).gen = s.gen
      ∧ (s.takeSrcTag c id t rule).queued = s.queued ∧ (s.takeSrcTag c id t rule).ev = s.ev
      ∧ (s.takeSrcTag c id t rule).ipu = s.ipu ∧ (s.takeSrcTag c id t rule).vtlb = s.vtlb
      ∧ (s.takeSrcTag c id t rule).params = s.params
      ∧ (s.takeSrcTag c id t rule).env = { s.env with draws := (s.takeSrcTag c id t rule).env.draws } := by
  simp only [State.takeSrcTag]
  rw [State.tteAction_updates, hrule.updates]
  exact ⟨rfl, rfl, rfl, rfl, rfl, rfl, rfl, rfl⟩

end

/-! ### What is sent where -/

/-- A push that fits adds its words behind the others (43_fifo_sif.md R400). -/
theorem State.sifPush_of_room {s : State} {f : Sif} {ws : List Word} (h : ws.length ≤ s.sifFree f) :
    s.sifPush f ws = s.updSif f fun x => { x with fifo := x.fifo ++ ws } := if_neg (Nat.not_lt.mpr h)

/-- Words 2 and 3 of a tag's quadword, which the walker does not read (30_encoding.md R150). -/
theorem wordOf_quad_hi (id : BitVec 3) (t : Tag) :
    wordOf (t.quad id) 2 = t.hi.extractLsb' 0 32 ∧ wordOf (t.quad id) 3 = t.hi.extractLsb' 32 32 := by
  constructor <;> simp (disch := decide) only [wordOf, Tag.quad, BitVec.extractLsb'_append_eq_of_le]

theorem eq_sif1_of_toCh {f : Sif} (h : f.toCh = .sif1) : f = .sif1 := by
  cases f with
  | sif1 => rfl
  | sif0 | sif2 => cases h

/-- Only SIF1 sends a tag to a FIFO, and only with TTE (43_fifo_sif.md R438). -/
theorem State.tteAction_fifos {s : State} {c : SrcCh} (h : ¬ (c = .sif1 ∧ chcrTte (s.chan.get c.toCh).chcr = true))
    (q : Quad) : (s.tteAction c q).sif = s.sif ∧ (s.tteAction c q).faults = s.faults := by
  by_cases htte : chcrTte (s.chan.get c.toCh).chcr = true
  · cases c with
    | ipu1 => rw [State.tteAction_ipu1]; exact ⟨rfl, rfl⟩
    | sif1 => exact absurd ⟨rfl, htte⟩ h
    | spr1 => rw [State.tteAction_spr1 htte]; exact ⟨rfl, rfl⟩
  · rw [State.tteAction_of_not_tte (Bool.not_eq_true _ ▸ htte)]
    exact ⟨rfl, rfl⟩

/-- Only SPR1 sends a tag to memory, and only with TTE (42_channel_engines.md R366). -/
theorem State.tteAction_scratchpad {s : State} {c : SrcCh} (h : ¬ (c = .spr1 ∧ chcrTte (s.chan.get c.toCh).chcr = true))
    (q : Quad) : (s.tteAction c q).mem = s.mem ∧ (s.tteAction c q).chan = s.chan := by
  constructor
  · refine State.tteAction_mem (fun hc => ?_) q
    subst hc
    exact Bool.not_eq_true _ ▸ fun htte => h ⟨rfl, htte⟩
  · rw [State.tteAction_chan, if_neg fun e => h e.symm]

/-- A quadword written to scratchpad leaves every byte outside it. -/
theorem sameBytesOutside_of_mem_memWrite {s t : State} {r : Region} {a n : Nat} {v : Quad}
    (h : t.mem = (s.memWrite r a n v).mem) : SameBytesOutside s t r a n := by
  unfold SameBytesOutside layout State.readByte
  rw [h]
  refine ⟨Memories.layout_set _ _ _, fun q b hout => ?_⟩
  exact s.readByte_memWrite_frame r a n v q b (by rw [length_leBytes]; exact hout)

theorem sameBytesOutside_of_sameBytes {s t : State} (h : SameBytes s t) (r : Region) (a n : Nat) :
    SameBytesOutside s t r a n :=
  ⟨h.1, fun q b _ => h.2 q b⟩

/-- The bytes are those of the memories. -/
theorem sameBytesOutside_of_mem_eq {s t u : State} {r : Region} {a n : Nat} (hmem : u.mem = t.mem)
    (h : SameBytesOutside s t r a n) : SameBytesOutside s u r a n := by
  unfold SameBytesOutside layout State.readByte at h ⊢
  rw [hmem]
  exact h

/-- Whatever a channel sends, no byte outside the quadword at SADR changes. -/
theorem State.tteAction_sameBytesOutside (s : State) (c : SrcCh) (q : Quad) :
    SameBytesOutside s (s.tteAction c q) .spr (sprOffset (s.chan.get c.toCh).sadr) 16 := by
  by_cases h : c = .spr1 ∧ chcrTte (s.chan.get c.toCh).chcr = true
  · obtain ⟨rfl, htte⟩ := h
    rw [State.tteAction_spr1 htte]
    exact sameBytesOutside_of_mem_memWrite rfl
  · exact sameBytesOutside_of_sameBytes (sameBytes_of_mem (State.tteAction_scratchpad h q).1) _ _ _

/-! ### The obligations -/

/-- Settles O26: a stalled REFS sets SIS and stalls the engine, and any other tag is taken and sent. -/
theorem sourceTagFrame : Obligations.SourceTagFrame := by
  unfold Obligations.SourceTagFrame
  intro c t i s s' hi h tte
  by_cases hs : i = .srcRefs c t ∧ stalls c t s
  · obtain ⟨rfl, hstalls⟩ := hs
    rw [exec_srcRefs_of_stalls hstalls] at h
    cases h
    have hbytes : SameBytes s (s.stallEnter c.toCh) := sameBytes_of_mem rfl
    exact ⟨fun k hk => ⟨rfl, PerChan.get_set_of_ne _ _ hk⟩, fun _ => ⟨rfl, hbytes⟩,
      sameBytesOutside_of_sameBytes hbytes _ _ _, fun _ => rfl, fun _ _ => rfl, rfl,
      fun hns => absurd ⟨rfl, hstalls⟩ hns, rfl, rfl, rfl, rfl, rfl, rfl, fun _ => rfl, rfl⟩
  · obtain ⟨id, rule, hrule, -, hexec⟩ := exec_of_mem_srcTags hi hs
    rw [hexec] at h
    cases h
    obtain ⟨hmem, hsif, hfaults, hsadr⟩ := s.takeSrcTag_sends c t hrule
    obtain ⟨htouches, honly, -, -⟩ := engineFrame_takeSrcTag s c id t hrule
    obtain ⟨hg, hgen, hqueued, hev, hipu, hvtlb, hparams, henv⟩ := s.takeSrcTag_frame c t hrule
    refine ⟨fun k hk => ?channels, fun hsend => ?spr1, ?outside, fun f => (honly f).1, fun f hf => ?fifo, by rw [hg],
      fun _ => by rw [hg], hgen, hqueued, hev, hipu, hvtlb, hparams,
      fun hsend => hfaults.trans (State.tteAction_fifos hsend _).2, henv⟩
    case channels =>
      obtain ⟨hchan, heng, -⟩ := htouches k hk
      exact ⟨hchan, heng⟩
    case spr1 =>
      obtain ⟨hkept, hchan⟩ := State.tteAction_scratchpad hsend (t.quad id)
      exact ⟨hsadr.trans (by rw [hchan]), sameBytes_of_mem (hmem.trans hkept)⟩
    case outside => exact sameBytesOutside_of_mem_eq hmem (s.tteAction_sameBytesOutside c _)
    case fifo =>
      by_cases hsend : c = .sif1 ∧ tte = true
      · obtain ⟨rfl, htte⟩ := hsend
        exact (honly f).2 fun hf' => hf ⟨rfl, htte, eq_sif1_of_toCh hf'⟩
      · rw [hsif, (State.tteAction_fifos hsend _).1]

/-- Settles O41: SPR1 writes the quadword to scratchpad, and SIF1 pushes its upper half. -/
theorem tagTransfer : Obligations.TagTransfer := by
  unfold Obligations.TagTransfer
  refine ⟨fun t i s s' hi htte h => ?spr1, fun t i s s' hi h hs => ?sif1⟩
  case spr1 =>
    obtain ⟨id, rule, hrule, hencode, hexec⟩ := exec_of_mem_srcTags (s := s) hi (by rintro ⟨-, hc, -⟩; cases hc)
    rw [hexec] at h
    cases h
    obtain ⟨hmem, -, -, hsadr⟩ := s.takeSrcTag_sends .spr1 t hrule
    rw [State.tteAction_spr1 htte] at hmem hsadr
    refine ⟨fun j hj => ?_, hsadr.trans (by simp [State.advanceSadr, SrcCh.toCh, sadrNext])⟩
    calc (s.takeSrcTag .spr1 id t rule).readByte .spr (sprOffset (s.chan.get .spr1).sadr + j)
      _ = (s.memWrite .spr (sprOffset (s.chan.get .spr1).sadr) 16 (t.quad id)).readByte .spr
            (sprOffset (s.chan.get .spr1).sadr + j) := by unfold State.readByte; rw [hmem, State.advanceSadr_mem]
      _ = (leBytes 16 (t.quad id)).getD j 0 := by
        rw [State.readByte_memWrite s .spr _ 16 _ trivial, if_pos ⟨rfl, by omega, by rw [length_leBytes]; omega⟩,
          Nat.add_sub_cancel_left]
      _ = (encode i).getD j 0 := by rw [hencode]
  case sif1 =>
    obtain ⟨id, rule, hrule, -, hexec⟩ := exec_of_mem_srcTags hi hs
    rw [hexec] at h
    cases h
    obtain ⟨-, hsif, hfaults, -⟩ := s.takeSrcTag_sends .sif1 t hrule
    rw [hsif, hfaults]
    refine ⟨fun htte hfree => ?_, fun htte => ?_⟩
    · obtain ⟨h2, h3⟩ := wordOf_quad_hi id t
      rw [State.tteAction_sif1 htte, h2, h3, State.sifPush_of_room (ws := [_, _]) hfree]
      simp
    · rw [State.tteAction_of_not_tte (c := .sif1) htte]

end Sys2Proof.Machine
end

section
/-!
PROOFS. O42: what the destination tags leave (41_tag_walker.md R298 to R303).
-/

namespace Sys2Proof.Machine
open Sys2Proof.Claims

/-- The tag bits cached over CHCR's low half (41_tag_walker.md R281). -/
theorem chcrWithTag_eq_append (v : Word) (h : BitVec 16) : chcrWithTag v h = h ++ v.extractLsb' 0 16 := by
  rw [chcrWithTag, BitVec.setWidth_eq_extractLsb' (by decide)]

/-- A destination tag whose ID decides the CNTS mark leaves what the statement says. -/
theorem State.takeDstTag_eq_after (s : State) (c : DstCh) (id : BitVec 3) (t : Tag) (last : Bool) :
    s.takeDstTag c id t last (id == 0) = afterDstTag c id t last s := by
  simp only [State.takeDstTag, State.updChan, State.updEng, PerChan.get_set_self, chcrTie_withTag]
  rw [chcrWithTag_eq_append]
  rfl

/-- Settles O42: each ID's `last` and CNTS marks are those of its rule. -/
theorem destinationTags : Obligations.DestinationTags := by
  unfold Obligations.DestinationTags
  intro c t s
  have htag (id : BitVec 3) (last : Bool) : (.next (s.takeDstTag c id t last (id == 0)) : Result) = _ :=
    congrArg Host.Outcome.next (s.takeDstTag_eq_after c id t last)
  exact ⟨htag 0 false, htag 1 false, htag 2 false, htag 3 false, htag 4 false, htag 5 false, htag 6 false, htag 7 true⟩

end Sys2Proof.Machine
end

section
/-!
PROOFS. O51, O56: the transfer step of the quadwords the action names, its bus error, and the stall source's update
(41_tag_walker.md R286, R296, 42_channel_engines.md R325).
-/

namespace Sys2Proof.Machine
open Sys2Proof.Claims

/-! ### The step of an engine -/

/-- A number of quadwords within the bound is the step's own (42_channel_engines.md R325). -/
theorem chunk_of_le {n b : Nat} (h1 : 1 ≤ n) (hn : n ≤ b) : chunk n b = n := by
  unfold chunk
  omega

/-- A runnable engine in phase Transfer moves the quadwords that its action names, within the bound. -/
theorem State.engineMove_of_transfer {s : State} {c : Ch} {n : Nat} (hr : runnable s.g)
    (hp : (s.eng.get c).phase = .transfer) (hrem : 0 < (s.eng.get c).rem) (h1 : 1 ≤ n) (hn : n ≤ s.bound c) :
    s.engineMove c n = .done (.next (s.transferStep c n)) := by
  unfold State.engineMove State.transferPhase
  rw [if_pos (s.dmacRunnable_iff.mpr hr), hp]
  simp only []
  rw [if_neg (by omega), if_neg (by omega), chunk_of_le h1 hn]

/-- The moves of a step neither read nor write the agenda. -/
theorem moveN_withAgenda {s t : State} {c : Ch} {n : Nat} {b : Bool} (h : s.moveN c n = (t, b)) (rest : List Action) :
    (withAgenda s rest).moveN c n = (withAgenda t rest, b) := by
  have henv : t.env = s.env := by rw [← State.moveN_env s c n, h]
  calc (withAgenda s rest).moveN c n
    _ = ((s.moveN c n).1.withEnv { s.env with agenda := rest }, (s.moveN c n).2) := s.moveN_withEnv _ c n
    _ = (withAgenda t rest, b) := by rw [h, ← henv]; rfl

/-- A transfer step that meets a bus error ends there. -/
theorem State.transferStep_of_bus_error {s t : State} {c : Ch} {n : Nat} (h : s.moveN c n = (t, false)) :
    s.transferStep c n = t := by
  unfold State.transferStep
  rw [h]

/-! ### The bus error -/

/-- SIF2's direction is DIR's (30_encoding.md R161). -/
theorem writesMemory_sif2 (s : State) : writesMemory s .sif2 = !chcrDir (s.chan.get .sif2).chcr := by
  unfold writesMemory chcrDir
  cases (s.chan.get .sif2).chcr.getLsbD 0 <;> rfl

/-- A quadword meets a bus error exactly when its address resolves to nothing in the channel's direction
(20_memory.md R101, 30_encoding.md R161). -/
theorem State.moveOne_eq_none_iff {s : State} {c : Ch} (hc : c.inScope = true) :
    s.moveOne c = none ↔ s.dmaAddr (s.memAddr c) (writesMemory s c) = none := by
  cases c with
  | vif0 | vif1 | gif => cases hc
  | ipu0 | sif0 | spr0 => unfold State.moveOne; exact State.moveToMemory_none
  | ipu1 | sif1 | spr1 => unfold State.moveOne; exact State.moveFromMemory_none
  | sif2 =>
    rw [State.moveOne, writesMemory_sif2]
    cases chcrDir (s.chan.get .sif2).chcr with
    | true => rw [if_pos rfl]; exact State.moveFromMemory_none
    | false => rw [if_neg Bool.false_ne_true]; exact State.moveToMemory_none

/-- The moves of a step up to the quadword whose address resolves to nothing (41_tag_walker.md R286). -/
theorem State.moveN_of_bus_error {s s1 : State} {c : Ch} {k n : Nat} (hmoved : s.moveN c k = (s1, true)) (hk : k < n)
    (hnone : s1.moveOne c = none) : s.moveN c n = (halted s1 c, false) := by
  obtain ⟨m, rfl⟩ : ∃ m, n = k + (m + 1) := ⟨n - k - 1, by omega⟩
  rw [State.moveN_add hmoved, State.moveN_succ_of_none hnone]

/-- A source tag whose address resolves to nothing (41_tag_walker.md R261, R286). -/
theorem State.srcTagFetch_of_bus_error {s : State} {c : SrcCh} (h : s.dmaAddr (s.chan.get c.toCh).tadr false = none) :
    s.srcTagFetch c = .done (.next (halted s c.toCh)) := by
  unfold State.srcTagFetch
  rw [h, State.busError_eq_halted]

/-- Settles O51: the tag fetch and the quadword each raise the bus error of their channel. -/
theorem busErrorHaltsTheChannel : Obligations.BusErrorHaltsTheChannel := by
  unfold Obligations.BusErrorHaltsTheChannel
  intro s rest c n hs hr hc
  refine ⟨fun hp hm hchan hnone => ?fetch, fun k s1 hp hrem hk hn hmoved hnone => ?transfer⟩
  case fetch =>
    obtain ⟨x, rfl, hroom⟩ : ∃ x : SrcCh, c = x.toCh
        ∧ (x = .sif1 → chcrTte (s.chan.get .sif1).chcr = true → 2 ≤ s.sifFree .sif1) := by
      obtain rfl | rfl | ⟨rfl, hroom⟩ := hchan
      · exact ⟨.ipu1, rfl, nofun⟩
      · exact ⟨.spr1, rfl, nofun⟩
      · exact ⟨.sif1, rfl, fun _ => hroom⟩
    refine step_of_engineMove hs ?_
    calc (withAgenda s rest).engineMove x.toCh n
      _ = (withAgenda s rest).tagFetchPhase x.toCh := (withAgenda s rest).engineMove_of_tagFetch hr hp n
      _ = (withAgenda s rest).srcTagFetch x := State.tagFetchPhase_of_srcChain hm hroom
      _ = .done (.next (halted (withAgenda s rest) x.toCh)) := State.srcTagFetch_of_bus_error hnone
  case transfer =>
    have hhalts := State.moveN_of_bus_error hmoved hk ((State.moveOne_eq_none_iff hc).mpr hnone)
    have hstep : (withAgenda s rest).transferStep c n = halted (withAgenda s1 rest) c :=
      State.transferStep_of_bus_error (moveN_withAgenda hhalts rest)
    rw [← hstep]
    exact step_of_engineMove hs (State.engineMove_of_transfer hr hp hrem (by omega) hn)

/-! ### The stall source -/

/-- `StallSrc` names the channel that the statement does (30_encoding.md R171). -/
theorem stallSrc_eq_some_iff (ctrl : Word) (c : Ch) :
    stallSrc ctrl = some c ↔ (c = .sif0 ∧ ctrl.extractLsb' 4 2 = 1) ∨ (c = .spr0 ∧ ctrl.extractLsb' 4 2 = 2)
      ∨ (c = .ipu0 ∧ ctrl.extractLsb' 4 2 = 3) := by
  unfold stallSrc ctrlSts
  generalize ctrl.extractLsb' 4 2 = sts
  revert sts
  cases c <;> decide

/-- The update after a transfer step (41_tag_walker.md R296). -/
theorem State.stallSrcUpdate_stadr (s : State) (c : Ch) :
    (stallSource s c → (s.stallSrcUpdate c).g.stadr = (s.chan.get c).madr &&& 0x7FFFFFFF)
      ∧ (¬ stallSource s c → (s.stallSrcUpdate c).g.stadr = s.g.stadr) := by
  unfold State.stallSrcUpdate stallSource
  rw [← stallSrc_eq_some_iff]
  constructor
  · intro h
    rw [if_pos h]
    rfl
  · intro h
    rw [if_neg h]

/-- The moves of a step leave the mode and the CNTS mark. -/
theorem State.moveN_mode_cnts {s t : State} {c : Ch} {n : Nat} (h : s.moveN c n = (t, true)) :
    (t.eng.get c).mode = (s.eng.get c).mode ∧ (t.eng.get c).cnts = (s.eng.get c).cnts := by
  induction n generalizing s with
  | zero => cases h; exact ⟨rfl, rfl⟩
  | succ n ih =>
    obtain ⟨u, hfirst, hrest⟩ := State.moveN_succ_true h
    obtain ⟨_, heng⟩ := hfirst.eng
    obtain ⟨hmode, hcnts⟩ := ih hrest
    rw [hmode, hcnts, heng, PerChan.get_set_self]
    exact ⟨rfl, rfl⟩

/-- The moves of a step leave which channel is the stall source. -/
theorem State.moveN_stallSource {s t : State} {c : Ch} {n : Nat} (h : s.moveN c n = (t, true)) :
    stallSource t c ↔ stallSource s c := by
  obtain ⟨hmode, hcnts⟩ := State.moveN_mode_cnts h
  unfold stallSource
  rw [State.moveN_g h, hmode, hcnts]

/-- A transfer step without a bus error leaves the channel registers that its moves leave and the global registers of the
stall source's update. -/
theorem State.transferStep_of_moved {s t : State} {c : Ch} {n : Nat} (h : s.moveN c n = (t, true)) :
    (s.transferStep c n).chan = t.chan ∧ (s.transferStep c n).g = (t.stallSrcUpdate c).g := by
  unfold State.transferStep
  rw [h]
  simp only []
  split
  · simp
  · simp

/-- Settles O56: the moves keep what makes a channel the stall source, and the end of the unit keeps STADR. -/
theorem stallSourceUpdatesStadr : Obligations.StallSourceUpdatesStadr := by
  unfold Obligations.StallSourceUpdatesStadr
  intro s s1 rest c n _ hs hr hp hrem hpos hn hmoved
  obtain ⟨hchan, hg⟩ := State.transferStep_of_moved (moveN_withAgenda hmoved rest)
  obtain ⟨hsource, hother⟩ := State.stallSrcUpdate_stadr (withAgenda s1 rest) c
  have hkept : s1.g = s.g := State.moveN_g hmoved
  refine ⟨_, step_of_engineMove hs (State.engineMove_of_transfer hr hp hrem hpos hn), hchan, ?_, fun h => ?_,
    fun h => ?_⟩
  · rw [hg, State.stallSrcUpdate_eq, ← hkept]
    rfl
  · rw [hg]
    exact hsource ((State.moveN_stallSource hmoved).mpr h)
  · rw [hg, ← hkept]
    exact hother fun hmovedSource => h ((State.moveN_stallSource hmoved).mp hmovedSource)

end Sys2Proof.Machine
end

section
/-!
PROOFS. O22: while the DMAC is not runnable the engines and the completion events hold (42_channel_engines.md R326,
60_exceptions.md R610).
-/

namespace Sys2Proof.Machine
open Sys2Proof.Claims

/-- No engine has a step while the DMAC is not runnable (42_channel_engines.md R326). -/
theorem State.engineMove_of_not_runnable {s : State} (hr : ¬ runnable s.g) (c : Ch) (n : Nat) :
    s.engineMove c n = hold s := if_neg (mt s.dmacRunnable_iff.mp hr)

/-- The event of a channel in scope stays pending while the DMAC is not runnable (60_exceptions.md R610). -/
theorem State.fireEvent_of_not_runnable {s : State} {c : Ch} (hc : c.inScope = true) (hr : ¬ runnable s.g) :
    s.fireEvent c = s := by
  unfold State.fireEvent
  split
  · rfl
  · rw [if_pos hc, if_neg fun h => hr (s.dmacRunnable_iff.mp h.2)]

/-- Settles O22: both guards ask for a runnable DMAC. -/
theorem enginesHoldWhileNotRunnable : Obligations.EnginesHoldWhileNotRunnable := by
  unfold Obligations.EnginesHoldWhileNotRunnable
  intro s rest c n hs hc hr
  constructor
  · exact step_of_engineMove hs (State.engineMove_of_not_runnable (s := withAgenda s rest) hr c n)
  · calc step (withAgenda s (.fire c :: rest))
      _ = .next ((withAgenda s rest).fireEvent c) := step_withAgenda_cons hs _ rest
      _ = .next (withAgenda s rest) :=
        congrArg Host.Outcome.next (State.fireEvent_of_not_runnable (s := withAgenda s rest) hc hr)

end Sys2Proof.Machine
end

section
/-!
PROOFS. O30: a start in a mode the channel does not support is the model fault, from which no step goes on
(40_registers.md R214, 42_channel_engines.md R322, 10_state.md R80).
-/

namespace Sys2Proof.Machine
open Sys2Proof.Claims

/-- A start in a mode the channel does not support only records the model fault (42_channel_engines.md R322). -/
theorem State.startChannel_of_unsupported {s : State} {c : Ch}
    (h : unsupported s.params c ((s.chan.get c).chcr.extractLsb' 2 2)) :
    s.startChannel c = s.addFault (.unsupportedMode c ((s.chan.get c).chcr.extractLsb' 2 2)) := by
  rw [State.startChannel_eq]
  exact if_pos ((startFaults_iff ..).mpr h)

/-- From a state with a fault record no step goes on (10_state.md R80). -/
theorem step_of_faults {s : State} {r : FaultRecord} {rs : List FaultRecord} (h : s.faults = r :: rs) :
    step s = .fault (.stopped r) := by
  unfold step State.nextMove
  rw [h]

/-- Settles O30: the committed start is the model fault, and a record stops the machine. -/
theorem unsupportedModeStopsTheMachine : Obligations.UnsupportedModeStopsTheMachine := by
  unfold Obligations.UnsupportedModeStopsTheMachine
  refine ⟨fun c v s hidle hv hr hmode => ?start, fun s r rs h => step_of_faults h⟩
  case start =>
    generalize ht : (s.updChan c fun d => { d with chcr := s.coerceMod v }) = t
    have hcommitted : t.chan.get c = { s.chan.get c with chcr := committed s.params v } :=
      ht ▸ PerChan.get_set_self ..
    have hfault : t.startChannel c = t.addFault (.unsupportedMode c ((committed s.params v).extractLsb' 2 2)) := by
      rw [State.startChannel_of_unsupported (by rw [hcommitted, ← ht]; exact hmode), hcommitted]
    refine ⟨t.addFault (.unsupportedMode c ((committed s.params v).extractLsb' 2 2)), ?exec, by rw [← ht]; rfl, ?busy,
      fun r => ?faults⟩
    case exec =>
      rw [exec_swChan_chcr, State.dmaExec_of_idle_start hidle hv, if_pos (s.dmacRunnable_iff.mpr hr), ht, hfault]
    case busy =>
      change (t.chan.get c).chcr.getLsbD 8 = true
      rw [hcommitted]
      exact (chcrStr_coerceMod s v).trans hv
    case faults => rw [State.mem_addFault, ← ht, State.updChan_faults]

end Sys2Proof.Machine
end

section
/-!
PROOFS. O52, O53: what one quadword leaves, on the channels that write memory and on those that read it
(42_channel_engines.md R327, R340, R345, R358, R364, 43_fifo_sif.md R421, R431, R441).
-/

namespace Sys2Proof.Machine
open Sys2Proof.Claims

/-! ### The address -/

/-- MADR advances by 16 on every channel but SPR0 (42_channel_engines.md R327). -/
theorem madrNext_of_ne_spr0 (g : Globals) {c : Ch} (hc : c ≠ .spr0) (a : Word) : madrNext g c a = a + 16 :=
  if_neg fun h => hc h.1

theorem toCh_ne_spr0 (f : Sif) : f.toCh ≠ .spr0 := by cases f <;> exact nofun

/-- An advance of MADR by 16, as a state (42_channel_engines.md R327). -/
theorem State.advanceMadr_of_ne_spr0 (s : State) {c : Ch} (hc : c ≠ .spr0) :
    s.advanceMadr c = { s with chan := s.chan.set c { s.chan.get c with madr := (s.chan.get c).madr + 16 } } := by
  simp only [State.advanceMadr_eq, State.updChan, madrNext_of_ne_spr0 _ hc]

/-! ### Into memory -/

/-- The bytes of a quadword read from memory. -/
theorem State.extractLsb'_memRead (s : State) (r : Region) (a : Nat) {i : Nat} (hi : i < 16) :
    (s.memRead r a 16).extractLsb' (8 * i) 8 = s.readByte r (a + i) := by
  unfold State.memRead
  rw [← setWidth_shiftRight_eq_extract, byte_ofLeBytes _ _ hi, Memory.getD_readBytes _ _ _ _ hi]
  rfl

/-- Bytes stored in a memory the machine has lie there. -/
theorem bytesAt_of_mem_memWrite {s t : State} {r : Region} {a n : Nat} {v : Quad} (hr : s.mem.has r)
    (h : t.mem = (s.memWrite r a n v).mem) : BytesAt t r a n v := by
  intro i hi
  unfold State.readByte
  rw [h]
  exact s.readByte_memWrite_at r a n v hr hi

/-- What a quadword moved to memory leaves: it lies at the resolved address, no other byte changes, and MADR advances. The
state `t` is the one without the quadword `q`, which was taken off the peripheral. -/
theorem State.moveToMemory_of_dmaAddr {s t : State} {c : Ch} {take : State → Quad × State} {q : Quad} {l : Loc}
    (hl : s.dmaAddr (s.memAddr c) true = some l) (htake : take s = (q, t)) (hmem : t.mem = s.mem) :
    ∃ s', s.moveToMemory c take = some s' ∧ BytesAt s' l.region l.off 16 q ∧ SameBytesOutside s s' l.region l.off 16
      ∧ s' = { t.advanceMadr c with mem := s'.mem } := by
  have hstored : ((t.memWrite l.region l.off 16 q).advanceMadr c).mem = (s.memWrite l.region l.off 16 q).mem := by
    rw [State.advanceMadr_mem, State.memWrite_mem, State.memWrite_mem, hmem]
  refine ⟨(t.memWrite l.region l.off 16 q).advanceMadr c, ?_, bytesAt_of_mem_memWrite (State.dmaAddr_has hl) hstored,
    sameBytesOutside_of_mem_memWrite hstored, rfl⟩
  unfold State.moveToMemory
  rw [hl, htake]

/-- The quadword taken off the IPU output FIFO is its oldest (42_channel_engines.md R340). -/
theorem State.ipuOutPop_of_fifo {s : State} {q : Quad} {qs : List Quad} (h : s.ipu.outFifo = q :: qs) :
    s.ipuOutPop = (q, { s with ipu := { s.ipu with outFifo := qs } }) := by
  unfold State.ipuOutPop
  rw [h]

/-- SIF0, and SIF2 with DIR = 0, move a quadword from their FIFO to memory (43_fifo_sif.md R421, R441). -/
theorem State.moveOne_of_sif_to_memory {s : State} {f : Sif}
    (h : f = .sif0 ∨ (f = .sif2 ∧ chcrDir (s.chan.get .sif2).chcr = false)) :
    s.moveOne f.toCh = s.moveToMemory f.toCh (State.takeSif f) := by
  obtain rfl | ⟨rfl, hdir⟩ := h
  · rfl
  · exact if_neg (by simp [hdir])

/-- Settles O52: each channel takes its quadword off the peripheral, and the move to memory is the same for all. -/
theorem movesIntoMemory : Obligations.MovesIntoMemory := by
  unfold Obligations.MovesIntoMemory
  intro s l
  refine ⟨fun q qs hl hfifo => ?ipu0, fun f w0 w1 w2 w3 ws hf hl hfifo => ?sif, fun hl => ?spr0⟩
  case ipu0 =>
    obtain ⟨s', hmove, hbytes, hsame, heq⟩ := State.moveToMemory_of_dmaAddr hl (State.ipuOutPop_of_fifo hfifo) rfl
    exact ⟨s', hmove, hbytes, hsame, heq.trans (by rw [State.advanceMadr_of_ne_spr0 _ (by decide)])⟩
  case sif =>
    obtain ⟨s', hmove, hbytes, hsame, heq⟩ := State.moveToMemory_of_dmaAddr hl (State.takeSif_of_fifo hfifo) rfl
    exact ⟨s', (State.moveOne_of_sif_to_memory hf).trans hmove, hbytes, hsame,
      heq.trans (by rw [State.advanceMadr_of_ne_spr0 _ (toCh_ne_spr0 f)])⟩
  case spr0 =>
    obtain ⟨s', hmove, hbytes, hsame, heq⟩ :=
      State.moveToMemory_of_dmaAddr (take := State.takeSpr) (t := s.advanceSadr .spr0) hl rfl rfl
    have hmoved : ((s.advanceSadr .spr0).advanceMadr .spr0).chan =
        s.chanMoved .spr0 (sadrNext (s.chan.get .spr0).sadr) :=
      State.advanceMadr_chanMoved (t := s.advanceSadr .spr0) rfl rfl
    have hchan : s'.chan = s.chanMoved .spr0 (sadrNext (s.chan.get .spr0).sadr) := (congrArg State.chan heq).trans hmoved
    have hmadr : (s'.chan.get .spr0).madr = madrNext s.g .spr0 (s.chan.get .spr0).madr := by
      rw [hchan, State.chanMoved, PerChan.get_set_self]
    refine ⟨s', hmove, fun i hi => (hbytes i hi).trans (s.extractLsb'_memRead .spr _ hi), hsame, ?state, fun hring => ?off,
      fun hring => ?on⟩
    case state =>
      rw [hmadr]
      exact heq.trans (congrArg (fun p => { s with mem := s'.mem, chan := p }) hmoved)
    case off => rw [hmadr, madrNext, if_neg fun h => Bool.false_ne_true (hring.symm.trans h.2)]
    case on => rw [hmadr, madrNext, if_pos ⟨rfl, hring⟩, mfifoAddr]

/-! ### From memory -/

/-- What a quadword moved from memory leaves: what the peripheral that takes it leaves, and MADR advances. -/
theorem State.moveFromMemory_of_dmaAddr {s : State} {c : Ch} {give : Quad → State → State} {q : Quad} {l : Loc}
    (hl : s.dmaAddr (s.memAddr c) false = some l) (hq : BytesAt s l.region l.off 16 q) :
    s.moveFromMemory c give = some ((give q s).advanceMadr c) := by
  unfold State.moveFromMemory
  rw [hl, ← State.memRead_eq s l.region l.off q hq]

/-- The IPU input FIFO takes a quadword where it has room (42_channel_engines.md R345). -/
theorem State.ipuInPush_of_room {s : State} (h : 0 < s.ipuInFree) (q : Quad) :
    s.ipuInPush q = { s with ipu := { s.ipu with inFifo := s.ipu.inFifo ++ [q] } } := if_neg (Nat.not_lt.mpr h)

/-- SIF1, and SIF2 with DIR = 1, move a quadword from memory to their FIFO (43_fifo_sif.md R431, R441). -/
theorem State.moveOne_of_sif_from_memory {s : State} {f : Sif}
    (h : f = .sif1 ∨ (f = .sif2 ∧ chcrDir (s.chan.get .sif2).chcr = true)) :
    s.moveOne f.toCh = s.moveFromMemory f.toCh (State.giveSif f) := by
  obtain rfl | ⟨rfl, hdir⟩ := h
  · rfl
  · exact if_pos hdir

/-- Settles O53: the quadword read is the one that lies there, and each channel gives it to its peripheral. -/
theorem movesFromMemory : Obligations.MovesFromMemory := by
  unfold Obligations.MovesFromMemory
  intro s l q hq
  refine ⟨fun hl hroom => ?ipu1, fun f hf hl hroom => ?sif, fun hl => ?spr1⟩
  case ipu1 =>
    refine (State.moveFromMemory_of_dmaAddr (give := fun q s => s.ipuInPush q) hl hq).trans ?_
    rw [State.ipuInPush_of_room hroom, State.advanceMadr_of_ne_spr0 _ (by decide)]
  case sif =>
    refine (State.moveOne_of_sif_from_memory hf).trans ((State.moveFromMemory_of_dmaAddr hl hq).trans ?_)
    rw [State.giveSif, State.sifPush_of_room (ws := [_, _, _, _]) hroom, State.advanceMadr_of_ne_spr0 _ (toCh_ne_spr0 f)]
    rfl
  case spr1 =>
    refine ⟨_, State.moveFromMemory_of_dmaAddr (give := State.giveSpr) hl hq, bytesAt_of_mem_memWrite trivial rfl,
      sameBytesOutside_of_mem_memWrite rfl, ?_⟩
    rw [State.advanceMadr_of_ne_spr0 _ (by decide)]
    simp [State.giveSpr, State.advanceSadr, State.updChan, sadrNext]

end Sys2Proof.Machine
end

section
/-!
PROOFS. O57, O58: the bound that the peripheral puts on a transfer step, the engines that park, wake and hold, and the end of
a unit (42_channel_engines.md R325, R329, R341, R346, R350, R370, 43_fifo_sif.md R403, R414, R420, R430).
-/

namespace Sys2Proof.Machine
open Sys2Proof.Claims

/-! ### The bound of a transfer step -/

/-- The peripheral lets a quadword move exactly when its limit is not 0 (42_channel_engines.md R325). -/
theorem canMove_iff (s : State) (c : Ch) : canMove s c ↔ s.peripheralLimit c ≠ some 0 := by
  unfold canMove State.peripheralLimit
  have hwords (n : Nat) : 4 ≤ n ↔ some (n / 4) ≠ some 0 := by simp
  cases c with
  | ipu0 => simp
  | ipu1 => simp [Nat.pos_iff_ne_zero]
  | sif0 | sif1 => exact hwords _
  | sif2 =>
    simp only [writesMemory_sif2]
    cases chcrDir (s.chan.get .sif2).chcr with
    | true => exact hwords _
    | false => exact hwords _
  | spr0 | spr1 | vif0 | vif1 | gif => simp

/-- A step moves nothing where the peripheral lets no quadword move. -/
theorem State.bound_eq_zero {s : State} {c : Ch} (h : ¬ canMove s c) : s.bound c = 0 := by
  rw [canMove_iff, not_not] at h
  unfold State.bound
  rw [h]
  exact Nat.min_zero _

/-- A step moves a quadword where one is left, the peripheral lets it move, and an interleave block has room for it
(42_channel_engines.md R325, R331). -/
theorem State.bound_pos {s : State} {c : Ch} (hrem : 0 < (s.eng.get c).rem) (h : canMove s c)
    (hblk : (s.eng.get c).mode = .interleave → s.g.sqwc.extractLsb' 16 8 = 0
      ∨ (s.eng.get c).blk < (s.g.sqwc.extractLsb' 16 8).toNat) : 1 ≤ s.bound c := by
  have hrun : 1 ≤ if (s.eng.get c).mode = .interleave ∧ sqwcTq s.g.sqwc ≠ 0 then
      min (s.eng.get c).rem (sqwcTq s.g.sqwc - (s.eng.get c).blk) else (s.eng.get c).rem := by
    split
    · next hm =>
      obtain h0 | hlt := hblk hm.1
      · exact absurd (congrArg BitVec.toNat h0) hm.2
      · exact le_min hrem (Nat.sub_pos_of_lt hlt)
    · exact hrem
  rw [canMove_iff] at h
  unfold State.bound
  simp only []
  split
  · next k hk => exact le_min hrun (Nat.pos_of_ne_zero fun hk0 => h (hk0 ▸ hk))
  · exact hrun

/-! ### Parking, waking and holding -/

/-- The step of a runnable engine in phase Transfer. -/
theorem State.engineMove_of_transferPhase {s : State} {c : Ch} (hr : runnable s.g) (hp : (s.eng.get c).phase = .transfer)
    (n : Nat) : s.engineMove c n = .done (.next (s.transferPhase c n)) := by
  unfold State.engineMove
  rw [if_pos (s.dmacRunnable_iff.mpr hr), hp]

/-- Where the peripheral lets no quadword move, an IPU channel parks and any other holds (42_channel_engines.md R341, R346,
43_fifo_sif.md R403). -/
theorem State.transferPhase_of_not_canMove {s : State} {c : Ch} (hrem : 0 < (s.eng.get c).rem) (h : ¬ canMove s c)
    (n : Nat) :
    s.transferPhase c n = if c = .ipu0 ∨ c = .ipu1 then s.updEng c fun e => { e with phase := .parked } else s := by
  unfold State.transferPhase
  rw [if_neg (Nat.pos_iff_ne_zero.mp hrem), if_pos (State.bound_eq_zero h)]

/-- A parked IPU channel wakes exactly when a quadword can move (42_channel_engines.md R350). -/
theorem State.wakes_iff {s : State} {c : Ch} (hc : c = .ipu0 ∨ c = .ipu1) : s.wakes c = true ↔ canMove s c := by
  obtain rfl | rfl := hc
  · simp [State.wakes, canMove, List.length_pos_iff]
  · simp [State.wakes, canMove]

/-- The step of a parked engine of a runnable DMAC. -/
theorem State.engineMove_of_parked {s : State} {c : Ch} (hr : runnable s.g) (hp : (s.eng.get c).phase = .parked) (n : Nat) :
    s.engineMove c n =
      if s.wakes c then .done (.next (s.updEng c fun e => { e with phase := .transfer })) else hold s := by
  unfold State.engineMove
  rw [if_pos (s.dmacRunnable_iff.mpr hr), hp]

/-- SIF0 waits for the four words of its tag (43_fifo_sif.md R420). -/
theorem State.sif0TagRead_of_short {s : State} (h : (s.sif.get .sif0).fifo.length < 4) : s.sif0TagRead = hold s := if_pos h

/-- SIF1 with TTE waits for the room that its tag transfer needs (43_fifo_sif.md R430). -/
theorem State.tagFetchPhase_of_sif1_full {s : State} (hm : (s.eng.get .sif1).mode = .srcChain)
    (htte : chcrTte (s.chan.get .sif1).chcr = true) (hfree : s.sifFree .sif1 < 2) : s.tagFetchPhase .sif1 = hold s := by
  unfold State.tagFetchPhase
  rw [hm]
  exact if_pos ⟨htte, hfree⟩

theorem toCh_not_ipu (f : Sif) : ¬ (f.toCh = .ipu0 ∨ f.toCh = .ipu1) := by cases f <;> decide

/-- Settles O57: the bound is 0 where the peripheral lets no quadword move, and a tag waits for its words or its room. -/
theorem enginesParkWakeAndHold : Obligations.EnginesParkWakeAndHold := by
  unfold Obligations.EnginesParkWakeAndHold
  refine ⟨fun s rest n hs hr => ⟨fun f hp hrem hfull => ?sif, fun hp hm hshort => ?sif0, fun hp hm htte hfull => ?sif1⟩,
    fun s rest c n ready hs hr hc _ => ?ipu⟩
  case sif =>
    refine step_of_engineMove hs (((withAgenda s rest).engineMove_of_transferPhase hr hp n).trans ?_)
    rw [State.transferPhase_of_not_canMove (s := withAgenda s rest) hrem hfull, if_neg (toCh_not_ipu f)]
  case sif0 =>
    refine step_of_engineMove hs ?_
    calc (withAgenda s rest).engineMove .sif0 n
      _ = (withAgenda s rest).tagFetchPhase .sif0 := (withAgenda s rest).engineMove_of_tagFetch hr hp n
      _ = (withAgenda s rest).sif0TagRead := State.tagFetchPhase_sif0 hm
      _ = hold (withAgenda s rest) := State.sif0TagRead_of_short hshort
  case sif1 =>
    refine step_of_engineMove hs ?_
    calc (withAgenda s rest).engineMove .sif1 n
      _ = (withAgenda s rest).tagFetchPhase .sif1 := (withAgenda s rest).engineMove_of_tagFetch hr hp n
      _ = hold (withAgenda s rest) := State.tagFetchPhase_of_sif1_full hm htte hfull
  case ipu =>
    obtain ⟨hipu, hready⟩ : (c = .ipu0 ∨ c = .ipu1) ∧ (ready ↔ canMove (withAgenda s rest) c) := by
      obtain ⟨rfl, hready⟩ | ⟨rfl, hready⟩ := hc
      · exact ⟨.inl rfl, hready⟩
      · exact ⟨.inr rfl, hready⟩
    have hwakes := (State.wakes_iff (s := withAgenda s rest) hipu).trans hready.symm
    refine ⟨fun hp hrem hnot => ?park, fun hp hyes => ?wake, fun hp hnot => ?hold⟩
    case park =>
      refine step_of_engineMove hs (((withAgenda s rest).engineMove_of_transferPhase hr hp n).trans ?_)
      rw [State.transferPhase_of_not_canMove (s := withAgenda s rest) hrem (mt hready.mpr hnot), if_pos hipu]
      rfl
    case wake =>
      exact step_of_engineMove hs (((withAgenda s rest).engineMove_of_parked hr hp n).trans (if_pos (hwakes.mpr hyes)))
    case hold =>
      exact step_of_engineMove hs (((withAgenda s rest).engineMove_of_parked hr hp n).trans (if_neg (mt hwakes.mp hnot)))

/-! ### The end of a unit -/

theorem isSif_iff (c : Ch) : isSif c = true ↔ c = .sif0 ∨ c = .sif1 ∨ c = .sif2 := by cases c <;> decide

/-- A unit completes unless it is a link of a chain that is not the last (42_channel_engines.md R329). -/
theorem completes_iff (e : Engine) : (e.mode = .normal ∨ e.mode = .interleave ∨ e.last = true) ↔
    ¬ ((e.mode = .srcChain ∨ e.mode = .dstChain) ∧ e.last = false) := by
  cases e.mode <;> simp

/-- The end of a unit is what the statement says (42_channel_engines.md R329, R370, 43_fifo_sif.md R414). -/
theorem State.endUnit_eq_unitEnded (s : State) (c : Ch) : s.endUnit c = unitEnded s c := by
  unfold State.endUnit unitEnded
  simp only [completes_iff, isSif_iff, ite_not]
  split
  · rfl
  · split
    · rfl
    · rfl

theorem State.transferPhase_of_empty {s : State} {c : Ch} (hrem : (s.eng.get c).rem = 0) (n : Nat) :
    s.transferPhase c n = unitEnded s c := (if_pos hrem).trans (s.endUnit_eq_unitEnded c)

/-- The state a transfer step leaves before the end of the unit: STADR and the cycles apart, what the moves left. -/
theorem State.stallSrcUpdate_addCycles (s : State) (c : Ch) (n : Nat) :
    (s.stallSrcUpdate c).addCycles c n =
      { s with
        g := { s.g with stadr := (s.stallSrcUpdate c).g.stadr }
        eng := s.eng.set c { s.eng.get c with cycles := (s.eng.get c).cycles + Config.costEE c n } } := by
  rw [State.stallSrcUpdate_eq]
  rfl

/-- A transfer step without a bus error ends the unit exactly when nothing is left (42_channel_engines.md R325, R329). -/
theorem State.transferStep_eq {s t : State} {c : Ch} {n : Nat} (h : s.moveN c n = (t, true)) :
    s.transferStep c n =
      if (t.eng.get c).rem = 0 then unitEnded ((t.stallSrcUpdate c).addCycles c n) c
      else (t.stallSrcUpdate c).addCycles c n := by
  have hrem : (((t.stallSrcUpdate c).addCycles c n).eng.get c).rem = (t.eng.get c).rem := by
    rw [State.stallSrcUpdate_addCycles, PerChan.get_set_self]
  unfold State.transferStep
  rw [h]
  simp only [hrem, State.endUnit_eq_unitEnded]

/-- The step of `n` quadwords within the bound that met no bus error, on the agenda. -/
theorem step_of_moved {s s1 : State} (rest : List Action) {c : Ch} {n : Nat} (hs : s.running) (hr : runnable s.g)
    (hp : (s.eng.get c).phase = .transfer) (hrem : 0 < (s.eng.get c).rem) (h1 : 1 ≤ n) (hn : n ≤ s.bound c)
    (hmoved : s.moveN c n = (s1, true)) :
    ∃ stadr cycles,
      let t := { withAgenda s1 rest with
        g := { s1.g with stadr := stadr }, eng := s1.eng.set c { s1.eng.get c with cycles := cycles } }
      step (withAgenda s (.engine c n :: rest)) = .next (if (s1.eng.get c).rem = 0 then unitEnded t c else t) := by
  have hmove : (withAgenda s rest).engineMove c n = _ := State.engineMove_of_transfer hr hp hrem h1 hn
  rw [State.transferStep_eq (moveN_withAgenda hmoved rest), State.stallSrcUpdate_addCycles] at hmove
  exact ⟨_, _, step_of_engineMove hs hmove⟩

/-- Settles O58: a step of one quadword is a step of `n` within the bound. -/
theorem endOfUnit : Obligations.EndOfUnit := by
  unfold Obligations.EndOfUnit
  intro s rest c n hs hr hp
  refine ⟨fun hrem => ?empty, fun s1 hrem h1 hn hmoved => step_of_moved rest hs hr hp hrem h1 hn hmoved,
    fun s1 hrem hmove hblk hone => ?one⟩
  case empty =>
    refine step_of_engineMove hs (((withAgenda s rest).engineMove_of_transferPhase hr hp n).trans ?_)
    rw [State.transferPhase_of_empty (s := withAgenda s rest) hrem]
  case one =>
    have hmoved : s.moveN c 1 = (counted s1 c, true) := State.moveN_succ_of_some hone 0
    have hlast : ((counted s1 c).eng.get c).rem = 0 ↔ (s.eng.get c).rem = 1 := by
      obtain ⟨blk, heng⟩ := (State.moveOne_quadMoved hone).eng
      rw [heng, PerChan.get_set_self]
      simp only []
      omega
    have hstep := step_of_moved rest hs hr hp hrem le_rfl (State.bound_pos hrem hmove hblk) hmoved
    simp only [hlast] at hstep
    exact hstep

end Sys2Proof.Machine
end

section
/-!
PROOFS. O55: the rest of an interleave block, quadword by quadword (42_channel_engines.md R331).
-/

namespace Sys2Proof.Machine
open Sys2Proof.Claims

/-- The quadwords left of an interleave block: those missing to TQWC, or those left of the run where that is less or TQWC is 0
(42_channel_engines.md R331). -/
def blockLeft (s : State) (c : Ch) : Nat :=
  if (s.g.sqwc.extractLsb' 16 8).toNat = 0 then (s.eng.get c).rem
  else min ((s.g.sqwc.extractLsb' 16 8).toNat - (s.eng.get c).blk) (s.eng.get c).rem

/-- A block ends exactly with its last quadword (42_channel_engines.md R331). -/
theorem blockLeft_eq_one_iff {s : State} {c : Ch} (h : 0 < blockLeft s c) :
    blockLeft s c = 1 ↔ ((s.g.sqwc.extractLsb' 16 8).toNat ≠ 0
      ∧ (s.eng.get c).blk + 1 = (s.g.sqwc.extractLsb' 16 8).toNat) ∨ (s.eng.get c).rem - 1 = 0 := by
  unfold blockLeft at h ⊢
  split at h
  · next h0 => rw [if_pos h0]; omega
  · next h0 => rw [if_neg h0]; omega

/-- The counts of the last quadword of a block: MADR skips and the next block starts (42_channel_engines.md R331). -/
theorem counted_of_block_end {s : State} {c : Ch} (hm : (s.eng.get c).mode = .interleave) (h : blockLeft s c = 1) :
    ((counted s c).chan.get c).madr = (s.chan.get c).madr + 16 * (s.g.sqwc.extractLsb' 0 8).setWidth 32
      ∧ ((counted s c).eng.get c).blk = 0 := by
  have hend := (blockLeft_eq_one_iff (by omega)).mp h
  unfold counted
  simp only []
  rw [if_pos ⟨hm, hend⟩]
  simp

/-- The counts of any other quadword of a block: the block counts up (42_channel_engines.md R331). -/
theorem counted_within_block {s : State} {c : Ch} (hm : (s.eng.get c).mode = .interleave) (h : 1 < blockLeft s c) :
    ((counted s c).chan.get c).madr = (s.chan.get c).madr ∧ ((counted s c).eng.get c).mode = .interleave
      ∧ blockLeft (counted s c) c = blockLeft s c - 1 := by
  have hin := (not_congr (blockLeft_eq_one_iff (by omega))).mp (by omega : ¬ blockLeft s c = 1)
  unfold counted
  simp only []
  rw [if_neg fun hend => hin hend.2]
  refine ⟨by simp, by simp [hm], ?_⟩
  simp only [blockLeft, PerChan.get_set_self, if_pos hm]
  split
  · rfl
  · omega

/-- The move of a quadword leaves what is left of the block, and advances MADR (42_channel_engines.md R327). -/
theorem State.moveOne_block {s s1 : State} {c : Ch} (h : s.moveOne c = some s1) :
    (s1.eng.get c).mode = (s.eng.get c).mode ∧ blockLeft s1 c = blockLeft s c ∧ s1.g = s.g
      ∧ (s1.chan.get c).madr = madrNext s.g c (s.chan.get c).madr := by
  obtain ⟨a, hchan⟩ := State.moveOne_chan h
  have hg := State.moveOne_g h
  have heng := State.moveOne_eng h
  refine ⟨by rw [heng], by unfold blockLeft; rw [hg, heng], hg, ?_⟩
  rw [hchan, State.chanMoved, PerChan.get_set_self]

/-- Moves that met no bus error: the first is a `MoveOne` and its counts. -/
theorem State.moveOne_of_moveN_succ {s s' : State} {c : Ch} {n : Nat} (h : s.moveN c (n + 1) = (s', true)) :
    ∃ s1, s.moveOne c = some s1 ∧ (counted s1 c).moveN c n = (s', true) := by
  cases hmove : s.moveOne c with
  | none => rw [State.moveN_succ_of_none hmove] at h; cases h
  | some s1 => exact ⟨s1, rfl, (State.moveN_succ_of_some hmove n).symm.trans h⟩

/-- The moves of a step count QWC and `rem` down together, in every mode (42_channel_engines.md R325). -/
theorem State.moveN_counts {s s' : State} {c : Ch} {n : Nat} (h : s.moveN c n = (s', true)) :
    (s'.eng.get c).rem = (s.eng.get c).rem - n ∧ (s'.chan.get c).qwc = (s.chan.get c).qwc - BitVec.ofNat 16 n := by
  induction n generalizing s with
  | zero => cases h; simp
  | succ n ih =>
    obtain ⟨t, hfirst, hrest⟩ := State.moveN_succ_true h
    obtain ⟨_, _, hchan⟩ := hfirst.chan
    obtain ⟨_, heng⟩ := hfirst.eng
    obtain ⟨hrem, hqwc⟩ := ih hrest
    rw [hrem, hqwc, hchan, heng, PerChan.get_set_self, PerChan.get_set_self, Nat.add_comm, BitVec.ofNat_add]
    exact ⟨Nat.sub_sub _ _ _, sub_sub _ _ _⟩

/-- The rest of a block, from any point of it: MADR advances by as much and skips, and the next block starts. By induction on
the quadwords before its last. -/
theorem State.moveN_block {s s' : State} {c : Ch} {n : Nat} (hm : (s.eng.get c).mode = .interleave)
    (hleft : blockLeft s c = n + 1) (h : s.moveN c (n + 1) = (s', true)) :
    (s'.chan.get c).madr = madrAfter s c (n + 1) + 16 * (s.g.sqwc.extractLsb' 0 8).setWidth 32
      ∧ (s'.eng.get c).blk = 0 := by
  induction n generalizing s with
  | zero =>
    obtain ⟨s1, hmove, hrest⟩ := State.moveOne_of_moveN_succ h
    cases hrest
    obtain ⟨hmode, hblock, hg, hmadr⟩ := State.moveOne_block hmove
    obtain ⟨hskip, hblk⟩ := counted_of_block_end (hmode.trans hm) (hblock.trans hleft)
    exact ⟨by rw [hskip, hg, hmadr]; rfl, hblk⟩
  | succ n ih =>
    obtain ⟨s1, hmove, hrest⟩ := State.moveOne_of_moveN_succ h
    obtain ⟨hmode, hblock, -, hmadr⟩ := State.moveOne_block hmove
    obtain ⟨hkept, hmode', hleft'⟩ := counted_within_block (hmode.trans hm) (by omega)
    obtain ⟨hrest, hblk⟩ := ih hmode' (by omega) hrest
    have hg := (State.moveOne_quadMoved hmove).g
    exact ⟨by rw [hrest, madrAfter_eq_of_first hg (hkept.trans hmadr), hg], hblk⟩

/-- Settles O55: the quadwords of the statement are those left of the block. -/
theorem interleaveBlockSkips : Obligations.InterleaveBlockSkips := by
  unfold Obligations.InterleaveBlockSkips
  intro s s' c _ hm hrem tq htq k hmoved
  obtain ⟨n, hn⟩ : ∃ n, k = n + 1 := by
    refine Nat.exists_eq_succ_of_ne_zero ?_
    show (if tq = 0 then _ else _) ≠ 0
    split
    · exact hrem.ne'
    · next h0 => omega
  obtain ⟨hmadr, hblk⟩ : (s'.chan.get c).madr = madrAfter s c k + 16 * (s.g.sqwc.extractLsb' 0 8).setWidth 32
      ∧ (s'.eng.get c).blk = 0 := by
    rw [hn] at hmoved ⊢
    exact State.moveN_block hm hn hmoved
  obtain ⟨hrem, hqwc⟩ := State.moveN_counts hmoved
  exact ⟨hmadr, fun hring => hmadr.trans (by rw [madrAfter_linear hring]), hblk, hrem, hqwc⟩

end Sys2Proof.Machine
end

section
/-!
PROOFS. O20: which actions change which FIFO (43_fifo_sif.md R404), from what the step of an engine leaves of the IPU FIFOs and
what the step of an IOP half leaves of the other SIF channels.
-/

namespace Sys2Proof.Machine

/-! ### The IPU FIFOs and the engines -/

/-- Of the two IPU FIFOs only that of channel `c` may differ: the input FIFO for IPU1, the output FIFO for IPU0. -/
structure OnlyIpuFifoOf (c : Ch) (x y : Ipu) : Prop where
  inFifo : c ≠ .ipu1 → y.inFifo = x.inFifo
  outFifo : c ≠ .ipu0 → y.outFifo = x.outFifo

theorem OnlyIpuFifoOf.of_eq {c : Ch} {x y : Ipu} (h : y = x) : OnlyIpuFifoOf c x y :=
  ⟨fun _ => congrArg Ipu.inFifo h, fun _ => congrArg Ipu.outFifo h⟩

theorem OnlyIpuFifoOf.trans {c : Ch} {x y z : Ipu} (h1 : OnlyIpuFifoOf c x y) (h2 : OnlyIpuFifoOf c y z) :
    OnlyIpuFifoOf c x z :=
  ⟨fun hc => (h2.inFifo hc).trans (h1.inFifo hc), fun hc => (h2.outFifo hc).trans (h1.outFifo hc)⟩

theorem State.ipuInPush_outFifo (s : State) (q : Quad) : (s.ipuInPush q).ipu.outFifo = s.ipu.outFifo := by
  unfold State.ipuInPush
  split
  · rfl
  · rfl

theorem State.ipuOutPop_inFifo (s : State) : s.ipuOutPop.2.ipu.inFifo = s.ipu.inFifo := by
  unfold State.ipuOutPop
  split
  · rfl
  · rfl

theorem State.moveToMemory_ipu {s s' : State} {c : Ch} {take : State → Quad × State}
    (h : s.moveToMemory c take = some s') : s'.ipu = (take s).2.ipu := by
  unfold State.moveToMemory at h
  split at h
  · cases h
  · cases h; rfl

theorem State.moveFromMemory_ipu {s s' : State} {c : Ch} {give : Quad → State → State}
    (h : s.moveFromMemory c give = some s') : ∃ q, s'.ipu = (give q s).ipu := by
  unfold State.moveFromMemory at h
  split at h
  · cases h
  · cases h; exact ⟨_, rfl⟩

/-- IPU0 takes its quadword off the output FIFO, IPU1 gives its own to the input FIFO, and no other channel reaches the IPU
(42_channel_engines.md R340, R345). -/
theorem State.moveOne_onlyIpuFifoOf {s s' : State} {c : Ch} (h : s.moveOne c = some s') :
    OnlyIpuFifoOf c s.ipu s'.ipu := by
  have htaken {k : Ch} {take : State → Quad × State} (ht : (take s).2.ipu = s.ipu)
      (hk : s.moveToMemory k take = some s') : OnlyIpuFifoOf c s.ipu s'.ipu :=
    .of_eq ((State.moveToMemory_ipu hk).trans ht)
  have hgiven {k : Ch} {give : Quad → State → State} (hg : ∀ q, (give q s).ipu = s.ipu)
      (hk : s.moveFromMemory k give = some s') : OnlyIpuFifoOf c s.ipu s'.ipu := by
    obtain ⟨q, hq⟩ := State.moveFromMemory_ipu hk
    exact .of_eq (hq.trans (hg q))
  unfold State.moveOne at h
  cases c with
  | vif0 | vif1 | gif => cases h
  | ipu0 => exact ⟨fun _ => State.moveToMemory_ipu h ▸ s.ipuOutPop_inFifo, fun hc => absurd rfl hc⟩
  | ipu1 =>
    obtain ⟨q, hq⟩ := State.moveFromMemory_ipu h
    exact ⟨fun hc => absurd rfl hc, fun _ => hq ▸ s.ipuInPush_outFifo q⟩
  | sif0 => exact htaken (s.takeSif_ipu .sif0) h
  | sif1 => exact hgiven (s.giveSif_ipu .sif1) h
  | sif2 =>
    simp only [] at h
    split at h
    · exact hgiven (s.giveSif_ipu .sif2) h
    · exact htaken (s.takeSif_ipu .sif2) h
  | spr0 => exact htaken (take := State.takeSpr) rfl h
  | spr1 => exact hgiven (give := State.giveSpr) (fun _ => rfl) h

theorem counted_ipu (s : State) (c : Ch) : (Claims.counted s c).ipu = s.ipu := by
  rw [← State.countOne_interleaveOne, State.interleaveOne_ipu, State.countOne_ipu]

theorem State.moveN_onlyIpuFifoOf (s : State) (c : Ch) (n : Nat) : OnlyIpuFifoOf c s.ipu (s.moveN c n).1.ipu := by
  induction n generalizing s with
  | zero => exact .of_eq rfl
  | succ n ih =>
    cases hmove : s.moveOne c with
    | none => rw [State.moveN_succ_of_none hmove]; exact .of_eq rfl
    | some s1 =>
      rw [State.moveN_succ_of_some hmove]
      exact (State.moveOne_onlyIpuFifoOf hmove).trans (counted_ipu s1 c ▸ ih (Claims.counted s1 c))

/-- Beyond its moves a transfer step leaves the IPU alone (42_channel_engines.md R325). -/
theorem State.transferStep_ipu (s : State) (c : Ch) (n : Nat) : (s.transferStep c n).ipu = (s.moveN c n).1.ipu := by
  unfold State.transferStep
  split
  · next s1 hs1 => rw [hs1]
  · next s1 hs1 =>
    rw [hs1]
    simp only []
    split
    · simp
    · simp

theorem State.transferPhase_onlyIpuFifoOf (s : State) (c : Ch) (n : Nat) :
    OnlyIpuFifoOf c s.ipu (s.transferPhase c n).ipu := by
  unfold State.transferPhase
  split
  · exact .of_eq (s.endUnit_ipu c)
  · split
    · split
      · exact .of_eq rfl
      · exact .of_eq rfl
    · exact s.transferStep_ipu c _ ▸ s.moveN_onlyIpuFifoOf c _

/-- No tag reaches the IPU (41_tag_walker.md R282, R298). -/
theorem ExecEffect.ipu_of_tag {p : Port} {s s' : State} (hp : Port.readsTag p = true) (he : ExecEffect s p s') :
    s'.ipu = s.ipu := by
  cases he with
  | host hport => rw [hport] at hp; cases hp
  | srcTag c id t rule hrule =>
    exact State.takeSrcTag_ipu s c id t rule fun k T u => by rw [hrule.updates]
  | srcStall => rfl
  | dstTag => rfl
  | iopTagSif0 t ht => cases ht; simp
  | iopTagSif1 t ht => cases ht; simp

/-- A step of the engine of channel `c` changes no IPU FIFO but its own. -/
theorem StepForm.onlyIpuFifoOf {s s' : State} {c : Ch} {n : Nat} (hs : StepForm s (.engine c n) s') :
    OnlyIpuFifoOf c s.ipu s'.ipu := by
  cases hs with
  | held => exact .of_eq rfl
  | host _ _ _ ha => cases Action.isHost_of_host ha
  | refused _ _ ha => cases Action.isHost_of_refused ha
  | tagBusError => exact .of_eq rfl
  | srcTag _ _ _ _ _ _ _ _ _ _ hi he => exact .of_eq ((hi ▸ exec_effect he).ipu_of_tag rfl)
  | dstTagSif0 _ _ _ _ _ _ _ hi he =>
    exact .of_eq (((hi ▸ exec_effect he).ipu_of_tag rfl).trans (s.takeSif_ipu .sif0))
  | dstTagSpr0 _ _ _ _ _ _ hi he =>
    exact .of_eq (((hi ▸ exec_effect he).ipu_of_tag rfl).trans (s.advanceSadr_ipu .spr0))
  | transfer => exact s.transferPhase_onlyIpuFifoOf c n
  | refetch => exact .of_eq rfl
  | wake => exact .of_eq rfl

/-! ### The frame of an IOP half -/

/-- What an operation on SIF channel `f` leaves: the other SIF channels and the IPU. -/
structure TouchesSif (f : Sif) (s t : State) : Prop where
  sif : ∀ k, k ≠ f → t.sif.get k = s.sif.get k
  ipu : t.ipu = s.ipu

theorem TouchesSif.of_eq {f : Sif} {s t : State} (hsif : t.sif = s.sif) (hipu : t.ipu = s.ipu) : TouchesSif f s t :=
  ⟨fun _ _ => by rw [hsif], hipu⟩

theorem TouchesSif.trans {f : Sif} {s t u : State} (h1 : TouchesSif f s t) (h2 : TouchesSif f t u) : TouchesSif f s u :=
  ⟨fun k hk => (h2.sif k hk).trans (h1.sif k hk), h2.ipu.trans h1.ipu⟩

theorem touchesSif_updSif (s : State) (f : Sif) (u : SifChan → SifChan) : TouchesSif f s (s.updSif f u) :=
  ⟨fun _ hk => PerSif.get_set_of_ne _ _ hk, rfl⟩

theorem touchesSif_sifPush (s : State) (f : Sif) (ws : List Word) : TouchesSif f s (s.sifPush f ws) := by
  unfold State.sifPush
  split
  · exact .of_eq rfl rfl
  · exact touchesSif_updSif s f _

theorem touchesSif_sifPop (s : State) (f : Sif) (n : Nat) : TouchesSif f s (s.sifPop f n).2 := by
  unfold State.sifPop
  split
  · exact .of_eq rfl rfl
  · exact touchesSif_updSif s f fun x => { x with fifo := x.fifo.drop n }

theorem touchesSif_drawN (s : State) (f : Sif) (n : Nat) : TouchesSif f s (s.drawN n).2 :=
  .of_eq (s.drawN_sif n) (s.drawN_ipu n)

/-- The last two parts of a step of an IOP half: an update of its own channel, and the cycles. -/
theorem touchesSif_updSif_addIopCycles (s : State) (f : Sif) (u : SifChan → SifChan) (n : Nat) :
    TouchesSif f s ((s.updSif f u).addIopCycles f n) :=
  (touchesSif_updSif s f u).trans (touchesSif_updSif _ f _)

/-- A step of an IOP half changes no other SIF channel and no IPU FIFO. -/
theorem StepForm.touchesSif {s s' : State} {f : Sif} {n : Nat} (hs : StepForm s (.iopHalf f n) s') :
    TouchesSif f s s' := by
  cases hs with
  | held => exact .of_eq rfl rfl
  | host _ _ _ ha => cases Action.isHost_of_host ha
  | refused _ _ ha => cases Action.isHost_of_refused ha
  | iopPushData => exact (touchesSif_sifPush s f _).trans (touchesSif_updSif_addIopCycles _ f _ _)
  | iopPopData =>
    have hwrite (u : State) (a : Word) (ws : List Word) : TouchesSif f u (u.iopWriteN a ws) :=
      .of_eq (u.iopWriteN_sif a ws) (u.iopWriteN_ipu a ws)
    exact (touchesSif_sifPop s f _).trans ((hwrite _ _ _).trans (touchesSif_updSif_addIopCycles _ f _ _))
  | iopPushJunk =>
    exact (touchesSif_drawN s f _).trans ((touchesSif_sifPush _ f _).trans (touchesSif_updSif_addIopCycles _ f _ _))
  | iopPopJunk => exact (touchesSif_sifPop s f _).trans (touchesSif_updSif_addIopCycles _ f _ _)
  | iopEnd => exact touchesSif_updSif s f _
  | iopTagSif0 _ t _ _ _ _ _ _ he =>
    cases he
    exact (touchesSif_drawN s _ 2).trans ((touchesSif_sifPush _ _ _).trans ((touchesSif_updSif _ _ _).trans
      (touchesSif_updSif_addIopCycles _ _ _ _)))
  | iopTagSif1 _ t _ _ _ _ _ _ he =>
    cases he
    exact (touchesSif_sifPop s _ 4).trans (touchesSif_updSif_addIopCycles _ _ _ _)

/-! ### The owners -/

/-- Every FIFO that differs from `s` to `t` is one that action `a` may change (43_fifo_sif.md R404). -/
structure FifosOwned (a : Action) (s t : State) : Prop where
  sif : ∀ f, (t.sif.get f).fifo ≠ (s.sif.get f).fifo →
    (∃ n, a = .engine f.toCh n) ∨ (∃ n, a = .iopHalf f n) ∨ a = .reset
  ipuIn : t.ipu.inFifo ≠ s.ipu.inFifo → (∃ n, a = .engine .ipu1 n) ∨ a = .ipuPop ∨ a = .reset
  ipuOut : t.ipu.outFifo ≠ s.ipu.outFifo → (∃ n, a = .engine .ipu0 n) ∨ (∃ q, a = .ipuPush q) ∨ a = .reset

theorem FifosOwned.of_fifos_eq {a : Action} {s t : State} (hsif : ∀ f, (t.sif.get f).fifo = (s.sif.get f).fifo)
    (hin : t.ipu.inFifo = s.ipu.inFifo) (hout : t.ipu.outFifo = s.ipu.outFifo) : FifosOwned a s t :=
  ⟨fun f h => absurd (hsif f) h, fun h => absurd hin h, fun h => absurd hout h⟩

theorem FifosOwned.of_eq {a : Action} {s t : State} (hsif : t.sif = s.sif) (hipu : t.ipu = s.ipu) : FifosOwned a s t :=
  .of_fifos_eq (fun _ => by rw [hsif]) (by rw [hipu]) (by rw [hipu])

/-- No access of the host reaches a FIFO (43_fifo_sif.md R404). -/
theorem HostEffect.fifosOwned {a : Action} {s s' : State} (h : HostEffect s s') : FifosOwned a s s' := by
  cases h with
  | env | refused | memWrite | chanWrite | globalWrite | genWrite => exact .of_eq (by simp) (by simp)

theorem State.updSif_fifo (s : State) (f : Sif) {u : SifChan → SifChan} (hu : (u (s.sif.get f)).fifo = (s.sif.get f).fifo)
    (k : Sif) : ((s.updSif f u).sif.get k).fifo = (s.sif.get k).fifo := by
  rw [State.updSif_sif, PerSif.get_set]
  split
  · next hk => subst hk; exact hu
  · rfl

theorem State.fireIopEvent_fifo (s : State) (f k : Sif) :
    ((s.fireIopEvent f).sif.get k).fifo = (s.sif.get k).fifo := by
  unfold State.fireIopEvent
  split
  · rfl
  · exact s.updSif_fifo f (u := fun x => { x with iopEv := none }) rfl k

theorem State.iopStart_fifo (s : State) (f : Sif) (madr tadr : Word) (words : Nat) (k : Sif) :
    ((s.iopStart f madr tadr words).sif.get k).fifo = (s.sif.get k).fifo := by
  unfold State.iopStart
  split
  · rfl
  · exact s.updSif_fifo f (by cases f <;> rfl) k

theorem State.ipuOutPush_inFifo (s : State) (q : Quad) : (s.ipuOutPush q).ipu.inFifo = s.ipu.inFifo := by
  unfold State.ipuOutPush
  split
  · rfl
  · rfl

theorem State.ipuInPop_outFifo (s : State) : s.ipuInPop.ipu.outFifo = s.ipu.outFifo := by
  unfold State.ipuInPop
  split
  · rfl
  · rfl

/-- Of the actions that are no step of an engine or of an IOP half, only the IPU's and reset change a FIFO. -/
theorem StepForm.fifosOwned_of_other {s s' : State} {a : Action} (hs : StepForm s a s') (he : ∀ c n, a ≠ .engine c n)
    (hi : ∀ f n, a ≠ .iopHalf f n) : FifosOwned a s s' := by
  cases hs with
  | tagBusError | srcTag | dstTagSif0 | dstTagSpr0 | transfer | refetch | wake => exact absurd rfl (he _ _)
  | iopPushData | iopPopData | iopPushJunk | iopPopJunk | iopEnd | iopTagSif0 | iopTagSif1 => exact absurd rfl (hi _ _)
  | host _ _ _ ha h => exact (StepForm.hostEffect ha h).fifosOwned
  | interpLoad _ _ _ _ _ h => exact (interpLoad_hostEffect h).fifosOwned
  | interpStore _ _ _ _ _ h => exact (interpStore_hostEffect h).fifosOwned
  | held | refused | vtlbInit | fire | extPump | extSchedule | mfifoEmpty | mmuMap | iopCpuStore =>
    exact .of_eq (by simp) (by simp)
  | fireIop f => exact .of_fifos_eq (s.fireIopEvent_fifo f) (by simp) (by simp)
  | iopStart f madr tadr words => exact .of_fifos_eq (s.iopStart_fifo f madr tadr words) (by simp) (by simp)
  | ipuRequest => exact .of_fifos_eq (fun _ => rfl) rfl rfl
  | ipuPush q =>
    exact ⟨fun f h => absurd (by simp) h, fun h => absurd (s.ipuOutPush_inFifo q) h, fun _ => .inr (.inl ⟨q, rfl⟩)⟩
  | ipuPop => exact ⟨fun f h => absurd (by simp) h, fun _ => .inr (.inl rfl), fun h => absurd s.ipuInPop_outFifo h⟩
  | reset => exact ⟨fun _ _ => .inr (.inr rfl), fun _ => .inr (.inr rfl), fun _ => .inr (.inr rfl)⟩

/-- Every action changes only the FIFOs it may change. -/
theorem StepForm.fifosOwned {s s' : State} {a : Action} (hs : StepForm s a s') : FifosOwned a s s' := by
  by_cases he : ∃ c n, a = .engine c n
  · obtain ⟨c, n, rfl⟩ := he
    have hipu := hs.onlyIpuFifoOf
    refine ⟨fun f h => .inl ⟨n, ?sif⟩, fun h => .inl ⟨n, ?ipuIn⟩, fun h => .inl ⟨n, ?ipuOut⟩⟩
    case sif => rw [not_imp_comm.mp (hs.engineFrame.sif f).2 h]
    case ipuIn => rw [not_imp_comm.mp hipu.inFifo h]
    case ipuOut => rw [not_imp_comm.mp hipu.outFifo h]
  by_cases hi : ∃ f n, a = .iopHalf f n
  · obtain ⟨f, n, rfl⟩ := hi
    have htouches := hs.touchesSif
    refine ⟨fun k h => .inr (.inl ⟨n, ?_⟩), fun h => absurd (congrArg _ htouches.ipu) h,
      fun h => absurd (congrArg _ htouches.ipu) h⟩
    rw [not_imp_comm.mp (fun hk => congrArg SifChan.fifo (htouches.sif k hk)) h]
  exact hs.fifosOwned_of_other (fun c n ha => he ⟨c, n, ha⟩) fun f n ha => hi ⟨f, n, ha⟩

/-- A step that goes on is the move of the action at the head of the agenda. -/
theorem move_head_of_step {s s' : State} (h : step s = .next s') : (s.nextAction.2.move s.head).result = .next s' := by
  have hmove : s.nextMove.result = step s := by
    unfold step
    cases s.nextMove with
    | run _ _ => rfl
    | done _ => rfl
  obtain ⟨hfaults, hrefused, -⟩ := step_form h
  rw [h, State.nextMove, hfaults, hrefused] at hmove
  exact hmove

/-- A step that takes the reset is the reset of the block (70_reset_and_hazards.md R700). -/
theorem eq_resetBlock_of_step {s s' : State} (h : step s = .next s') (ha : s.head = .reset) :
    s' = s.nextAction.2.resetBlock := by
  have hmove := move_head_of_step h
  rw [ha] at hmove
  cases hmove
  rfl

/-- Settles O20: the owners are those of the step's form, and a reset leaves the FIFOs of the reset state. -/
theorem fifosHaveOneOwner : Obligations.FifosHaveOneOwner := by
  unfold Obligations.FifosHaveOneOwner
  intro s s' h
  obtain ⟨_, hform⟩ := step_form_withEnv h
  obtain ⟨hsif, hin, hout⟩ := hform.fifosOwned
  refine ⟨hsif, hin, hout, fun ha => ?reset⟩
  obtain rfl := eq_resetBlock_of_step h ha
  exact ⟨fun f => by cases f <;> rfl, rfl, rfl⟩

end Sys2Proof.Machine
end

section
/-!
PROOFS. What the step of an IOP half is in each case of 43_fifo_sif.md R425 to R428, R434 to R437 and R443, and what its FIFO
operations and its draws leave.
-/

namespace Sys2Proof.Machine

/-! ### FIFO operations and draws -/

/-- A pop of words that are there takes the oldest off (43_fifo_sif.md R400). -/
theorem State.sifPop_of_size {s : State} {f : Sif} {n : Nat} (h : n ≤ s.sifSize f) :
    s.sifPop f n = ((s.sif.get f).fifo.take n, s.updSif f fun x => { x with fifo := x.fifo.drop n }) :=
  if_neg (Nat.not_lt.mpr h)

/-- Draws change the count of draws alone (log 2). -/
theorem State.drawN_eq (s : State) (n : Nat) :
    (s.drawN n).2 = { s with env := { s.env with draws := s.env.draws + n } } := by
  induction n generalizing s with
  | zero => rfl
  | succ n ih =>
    have hrest : (s.drawN (n + 1)).2 = { s with env := { s.env with draws := s.env.draws + 1 + n } } := ih s.draw.2
    rw [hrest, Nat.add_assoc, Nat.add_comm 1]

theorem State.length_drawN (s : State) (n : Nat) : (s.drawN n).1.length = n := by
  induction n generalizing s with
  | zero => rfl
  | succ n ih => exact congrArg (· + 1) (ih s.draw.2)

/-! ### The direction -/

/-- SIF0's half pushes, and SIF2's while DIR = 0 (43_fifo_sif.md R440). -/
theorem State.iopPushes_iff (s : State) (f : Sif) :
    s.iopPushes f = true ↔ f = .sif0 ∨ (f = .sif2 ∧ (s.chan.get .sif2).chcr.getLsbD 0 = false) := by
  cases f with
  | sif0 | sif1 => simp [State.iopPushes]
  | sif2 => simp [State.iopPushes, chcrDir]

/-! ### The cases of a step -/

section
variable {s : State} {f : Sif}

theorem State.iopMove_of_idle (hb : (s.sif.get f).iop.busy = false) (n : Nat) : s.iopMove f n = hold s := if_pos hb

variable (hb : (s.sif.get f).iop.busy = true)
include hb

theorem State.iopMove_of_dataPush (hc : 0 < (s.sif.get f).iop.counter) (hp : s.iopPushes f = true) (n : Nat) :
    s.iopMove f n = if 0 < s.sifFree f then
      .done (.next (s.iopPushData f (chunk n (min (s.sif.get f).iop.counter (s.sifFree f))))) else hold s := by
  simp [State.iopMove, hb, hc, hp]

theorem State.iopMove_of_dataPop (hc : 0 < (s.sif.get f).iop.counter) (hp : s.iopPushes f = false) (n : Nat) :
    s.iopMove f n = if 0 < s.sifSize f then
      .done (.next (s.iopPopData f (chunk n (min (s.sif.get f).iop.counter (s.sifSize f))))) else hold s := by
  simp [State.iopMove, hb, hc, hp]

theorem State.iopMove_of_padPush (hc : (s.sif.get f).iop.counter = 0) (hj : 0 < (s.sif.get f).iop.writeJunk)
    (hp : s.iopPushes f = true) (n : Nat) :
    s.iopMove f n =
      if (s.sif.get f).iop.writeJunk ≤ s.sifFree f then .done (.next (s.iopPushJunk f)) else hold s := by
  simp [State.iopMove, hb, hc, hj, hp]

theorem State.iopMove_of_padPop (hc : (s.sif.get f).iop.counter = 0) (hj : 0 < (s.sif.get f).iop.writeJunk)
    (hp : s.iopPushes f = false) (n : Nat) :
    s.iopMove f n =
      if (s.sif.get f).iop.writeJunk ≤ s.sifSize f then .done (.next (s.iopPopJunk f)) else hold s := by
  simp [State.iopMove, hb, hc, hj, hp]

theorem State.iopMove_of_last (hc : (s.sif.get f).iop.counter = 0) (hj : (s.sif.get f).iop.writeJunk = 0)
    (hl : (s.sif.get f).iop.last = true) (n : Nat) : s.iopMove f n = .done (.next (s.endIOP f)) := by
  simp [State.iopMove, hb, hc, hj, hl]

end

/-- Four words are always an IOP tag (30_encoding.md R155). -/
theorem readInstr_iopTagSif0 (q : Quad) (s : State) :
    readInstr .iopTagSif0 (leBytes 16 q) s = .run (.iopTagSif0 (IopTag.ofQuad q)) s :=
  readInstr_of_decode (decode_iopTagSif0_leBytes q) s

theorem readInstr_iopTagSif1 (q : Quad) (s : State) :
    readInstr .iopTagSif1 (leBytes 16 q) s = .run (.iopTagSif1 (IopTag.ofQuad q)) s :=
  readInstr_of_decode (decode_iopTagSif1_leBytes q) s

/-- A half without the words or the room for its tag holds, and SIF2 has no tags (43_fifo_sif.md R403, R443). -/
theorem State.iopTagMove_of_short {s : State} {f : Sif}
    (h : f = .sif2 ∨ (f = .sif0 ∧ s.sifFree f < 4) ∨ (f = .sif1 ∧ s.sifSize f < 4)) : s.iopTagMove f = hold s := by
  obtain rfl | ⟨rfl, hfree⟩ | ⟨rfl, hsize⟩ := h
  · rfl
  · exact if_pos hfree
  · exact if_pos hsize

end Sys2Proof.Machine
end

section
/-!
PROOFS. O43: the IOP tags, whose pushes fit and whose pops are there (43_fifo_sif.md R427, R434).
-/

namespace Sys2Proof.Machine
open Sys2Proof.Claims

/-- What a tag loads, with the step's cycles (43_fifo_sif.md R416, R427, R434). -/
theorem State.loadIopTag_addIopCycles (s : State) (f : Sif) (t : IopTag) (n : Nat) :
    (s.loadIopTag f t).addIopCycles f n = withSif s f
      { s.sif.get f with
        iopMadr := (0 : BitVec 8) ++ t.iaddr
        iop := {
          busy := (s.sif.get f).iop.busy, counter := t.words.toNat, writeJunk := padWords t.words.toNat
          last := t.iirq == 1 || t.ert == 1, cycles := (s.sif.get f).iop.cycles + Config.costIOP f n } } := by
  have hiaddr : t.iaddr.setWidth 32 = (0 : BitVec 8) ++ t.iaddr := BitVec.setWidth_eq_append (by decide)
  simp [State.loadIopTag, State.addIopCycles, State.updSif, withSif, hiaddr, junkOf, padWords]

/-- Settles O43: SIF0's push of the EE tag and two draws fits, and SIF1's four words are there; the load is one lemma. -/
theorem iopTags : Obligations.IopTags := by
  unfold Obligations.IopTags
  intro t s link
  refine ⟨fun hroom => ?sif0, fun hsize => ?sif1⟩
  case sif0 =>
    have hpush : (s.drawN 2).2.sifPush .sif0 ([t.u2, t.u3] ++ (s.drawN 2).1) = _ := State.sifPush_of_room hroom
    refine ⟨Config.freeWord s.env.draws, Config.freeWord (s.env.draws + 1),
      (s.sif.get .sif0).iop.cycles + Config.costIOP .sif0 4, s.env.draws + 2, ?_⟩
    show execIopTagSif0 t s = _
    simp only [execIopTagSif0, hpush, State.loadIopTag_addIopCycles]
    rfl
  case sif1 =>
    refine ⟨(s.sif.get .sif1).iop.cycles + Config.costIOP .sif1 4, ?_⟩
    show execIopTagSif1 t s = _
    simp only [execIopTagSif1, State.sifPop_of_size hsize, State.loadIopTag_addIopCycles]
    rfl

end Sys2Proof.Machine
end

section
/-!
PROOFS. O23: an IOP half reads and writes nothing of the EE DMAC but, on SIF2, the direction of its channel (43_fifo_sif.md R412,
R440): its operations commute with a change of the EE DMAC.
-/

namespace Sys2Proof.Machine
open Sys2Proof.Claims

/-- `s` with the EE DMAC of `d`: the registers, the engines, the events and the queued starts. -/
def State.withDmac (s d : State) : State :=
  { s with g := d.g, chan := d.chan, eng := d.eng, ev := d.ev, queued := d.queued }

/-! ### The operations of an IOP half -/

section
variable (s d : State)

theorem State.sifPush_withDmac (f : Sif) (ws : List Word) :
    (s.withDmac d).sifPush f ws = (s.sifPush f ws).withDmac d := by
  unfold State.sifPush
  rw [show (s.withDmac d).sifFree f = s.sifFree f from rfl]
  split
  · rfl
  · rfl

theorem State.sifPop_withDmac (f : Sif) (n : Nat) :
    (s.withDmac d).sifPop f n = ((s.sifPop f n).1, (s.sifPop f n).2.withDmac d) := by
  unfold State.sifPop
  rw [show (s.withDmac d).sifSize f = s.sifSize f from rfl]
  split
  · rfl
  · rfl

theorem State.drawN_withDmac (n : Nat) : (s.withDmac d).drawN n = ((s.drawN n).1, (s.drawN n).2.withDmac d) := by
  induction n generalizing s with
  | zero => rfl
  | succ n ih => simp only [State.drawN, show (s.withDmac d).draw = (s.draw.1, s.draw.2.withDmac d) from rfl, ih]

theorem State.iopReadN_withDmac (a : Word) (n : Nat) : (s.withDmac d).iopReadN a n = s.iopReadN a n := by
  induction n generalizing a with
  | zero => rfl
  | succ n ih => exact congrArg (s.iopRead a :: ·) (ih (a + 4))

theorem State.iopWriteN_withDmac (a : Word) (ws : List Word) :
    (s.withDmac d).iopWriteN a ws = (s.iopWriteN a ws).withDmac d := by
  induction ws generalizing s a with
  | nil => rfl
  | cons w ws ih => exact ih (s.iopWrite a w) (a + 4)

theorem State.iopPushData_withDmac (f : Sif) (n : Nat) :
    (s.withDmac d).iopPushData f n = (s.iopPushData f n).withDmac d := by
  simp only [State.iopPushData, State.iopReadN_withDmac, State.sifPush_withDmac]
  rfl

theorem State.iopPopData_withDmac (f : Sif) (n : Nat) :
    (s.withDmac d).iopPopData f n = (s.iopPopData f n).withDmac d := by
  simp only [State.iopPopData, State.sifPop_withDmac, State.iopWriteN_withDmac]
  rfl

theorem State.iopPushJunk_withDmac (f : Sif) : (s.withDmac d).iopPushJunk f = (s.iopPushJunk f).withDmac d := by
  simp only [State.iopPushJunk, State.drawN_withDmac, State.sifPush_withDmac]
  rfl

theorem State.iopPopJunk_withDmac (f : Sif) : (s.withDmac d).iopPopJunk f = (s.iopPopJunk f).withDmac d := by
  simp only [State.iopPopJunk, State.sifPop_withDmac]
  rfl

end

/-! ### The moves -/

/-- Two moves that answer the same next state but for the EE DMAC, which for the second is that of `d`. -/
def NextUpToDmac (d : State) (m m' : Move) : Prop := ∃ t, m.result = .next t ∧ m'.result = .next (t.withDmac d)

theorem nextUpToDmac_hold (s d : State) : NextUpToDmac d (hold s) (hold (s.withDmac d)) := ⟨s, rfl, rfl⟩

/-- A step under a guard that is the same for both, and a hold otherwise. -/
theorem nextUpToDmac_guarded {p : Prop} [Decidable p] {s d t t' : State} (h : t' = t.withDmac d) :
    NextUpToDmac d (if p then .done (.next t) else hold s) (if p then .done (.next t') else hold (s.withDmac d)) := by
  subst h
  split
  · exact ⟨t, rfl, rfl⟩
  · exact nextUpToDmac_hold s d

theorem nextUpToDmac_iopTagSif0 (s d : State) (t : IopTag) :
    NextUpToDmac d (.run (.iopTagSif0 t) s) (.run (.iopTagSif0 t) (s.withDmac d)) := by
  refine ⟨_, rfl, ?_⟩
  show execIopTagSif0 t (s.withDmac d) = _
  simp only [execIopTagSif0, State.drawN_withDmac, State.sifPush_withDmac]
  rfl

theorem nextUpToDmac_iopTagSif1 (s d : State) (t : IopTag) :
    NextUpToDmac d (.run (.iopTagSif1 t) s) (.run (.iopTagSif1 t) (s.withDmac d)) := by
  refine ⟨_, rfl, ?_⟩
  show execIopTagSif1 t (s.withDmac d) = _
  simp only [execIopTagSif1, State.sifPop_withDmac]
  rfl

/-- The tag is read from IOP RAM or from the FIFO (43_fifo_sif.md R427, R434). -/
theorem State.iopTagMove_withDmac (s d : State) (f : Sif) :
    NextUpToDmac d (s.iopTagMove f) ((s.withDmac d).iopTagMove f) := by
  unfold State.iopTagMove
  cases f with
  | sif0 =>
    simp only [State.iopReadN_withDmac, readInstr_iopTagSif0, show (s.withDmac d).sifFree .sif0 = s.sifFree .sif0 from rfl]
    split
    · exact nextUpToDmac_hold s d
    · exact nextUpToDmac_iopTagSif0 s d _
  | sif1 =>
    simp only [readInstr_iopTagSif1, show (s.withDmac d).sifSize .sif1 = s.sifSize .sif1 from rfl]
    split
    · exact nextUpToDmac_hold s d
    · exact nextUpToDmac_iopTagSif1 s d _
  | sif2 => exact nextUpToDmac_hold s d

/-- A step of an IOP half in the same direction is the same in every case (43_fifo_sif.md R412). -/
theorem State.iopMove_withDmac {s d : State} {f : Sif} (hdir : (s.withDmac d).iopPushes f = s.iopPushes f) (n : Nat) :
    NextUpToDmac d (s.iopMove f n) ((s.withDmac d).iopMove f n) := by
  cases hb : (s.sif.get f).iop.busy with
  | false =>
    rw [State.iopMove_of_idle hb, State.iopMove_of_idle (s := s.withDmac d) hb]
    exact nextUpToDmac_hold s d
  | true =>
    obtain hc | hc := (s.sif.get f).iop.counter.eq_zero_or_pos
    · obtain hj | hj := (s.sif.get f).iop.writeJunk.eq_zero_or_pos
      · cases hl : (s.sif.get f).iop.last with
        | true =>
          rw [State.iopMove_of_last hb hc hj hl, State.iopMove_of_last (s := s.withDmac d) hb hc hj hl]
          exact ⟨_, rfl, rfl⟩
        | false =>
          rw [State.iopMove_of_noWords s hb hc hj hl, State.iopMove_of_noWords (s.withDmac d) hb hc hj hl]
          exact s.iopTagMove_withDmac d f
      · cases hp : s.iopPushes f with
        | true =>
          rw [State.iopMove_of_padPush hb hc hj hp, State.iopMove_of_padPush (s := s.withDmac d) hb hc hj (hdir.trans hp)]
          exact nextUpToDmac_guarded (s.iopPushJunk_withDmac d f)
        | false =>
          rw [State.iopMove_of_padPop hb hc hj hp, State.iopMove_of_padPop (s := s.withDmac d) hb hc hj (hdir.trans hp)]
          exact nextUpToDmac_guarded (s.iopPopJunk_withDmac d f)
    · cases hp : s.iopPushes f with
      | true =>
        rw [State.iopMove_of_dataPush hb hc hp, State.iopMove_of_dataPush (s := s.withDmac d) hb hc (hdir.trans hp)]
        exact nextUpToDmac_guarded (s.iopPushData_withDmac d f _)
      | false =>
        rw [State.iopMove_of_dataPop hb hc hp, State.iopMove_of_dataPop (s := s.withDmac d) hb hc (hdir.trans hp)]
        exact nextUpToDmac_guarded (s.iopPopData_withDmac d f _)

/-- SIF0's and SIF1's directions are fixed, and SIF2's is CHCR.DIR (43_fifo_sif.md R440). -/
theorem State.iopPushes_withDmac {s d : State} {f : Sif}
    (h : f = .sif2 → (d.chan.get .sif2).chcr.getLsbD 0 = (s.chan.get .sif2).chcr.getLsbD 0) :
    (s.withDmac d).iopPushes f = s.iopPushes f := by
  cases f with
  | sif0 | sif1 => rfl
  | sif2 => exact congrArg (!·) (h rfl)

/-- Settles O23: the step is the half's move, which is the same up to the EE DMAC. -/
theorem iopHalvesIgnoreTheEeDmac : Obligations.IopHalvesIgnoreTheEeDmac := by
  unfold Obligations.IopHalvesIgnoreTheEeDmac
  intro s rest f n g ch e ev q hs hdir
  let d : State := { s with g := g, chan := ch, eng := e, ev := ev, queued := q }
  obtain ⟨t, ht, ht'⟩ :=
    State.iopMove_withDmac (s := withAgenda s rest) (d := d) (f := f) (State.iopPushes_withDmac hdir) n
  exact ⟨t, (step_withAgenda_cons hs _ rest).trans ht, (step_withAgenda_cons (s := s.withDmac d) hs _ rest).trans ht'⟩

end Sys2Proof.Machine
end

section
/-!
PROOFS. O60: the steps of an IOP half other than its tag, each under its guard and as an exact next state (43_fifo_sif.md R403,
R411, R415, R425, R426, R428, R435 to R437, R443, 60_exceptions.md R612).
-/

namespace Sys2Proof.Machine
open Sys2Proof.Claims

/-! ### What each step leaves -/

section
variable {s : State} {f : Sif}

theorem State.iopStart_of_busy (hb : (s.sif.get f).iop.busy = true) (madr tadr : Word) (words : Nat) :
    s.iopStart f madr tadr words = s := if_pos hb

/-- One data word goes from IOP RAM to the FIFO (43_fifo_sif.md R425). -/
theorem State.iopPushData_one (hf : 0 < s.sifFree f) :
    s.iopPushData f 1 = withSif s f { s.sif.get f with
      fifo := (s.sif.get f).fifo ++ [s.iopRead (s.sif.get f).iopMadr]
      iopMadr := (s.sif.get f).iopMadr + 4
      iop := { (s.sif.get f).iop with
        counter := (s.sif.get f).iop.counter - 1
        cycles := (s.sif.get f).iop.cycles + Config.costIOP f 1 } } := by
  have hpush : s.sifPush f [s.iopRead (s.sif.get f).iopMadr] = _ := State.sifPush_of_room hf
  simp [State.iopPushData, State.iopReadN, hpush, State.addIopCycles, State.updSif, withSif]

/-- One data word goes from the FIFO to IOP RAM (43_fifo_sif.md R435). -/
theorem State.iopPopData_one {w : Word} {ws : List Word} (hf : (s.sif.get f).fifo = w :: ws) :
    s.iopPopData f 1 =
      { withSif s f { s.sif.get f with
          fifo := ws
          iopMadr := (s.sif.get f).iopMadr + 4
          iop := { (s.sif.get f).iop with
            counter := (s.sif.get f).iop.counter - 1
            cycles := (s.sif.get f).iop.cycles + Config.costIOP f 1 } } with
        mem := (s.memWrite .iopRam (s.iopOffset (s.sif.get f).iopMadr) 4 (w.setWidth 128)).mem } := by
  have hpop : s.sifPop f 1 = _ := State.sifPop_of_size (by simp [State.sifSize, hf])
  simp [State.iopPopData, hpop, hf, State.iopWriteN, State.iopWrite, State.memWrite, State.addIopCycles, State.updSif,
    withSif, State.iopOffset]

/-- The pad words that are pushed are draws (43_fifo_sif.md R426). -/
theorem State.iopPushJunk_of_room (hf : (s.sif.get f).iop.writeJunk ≤ s.sifFree f) :
    s.iopPushJunk f =
      { withSif s f { s.sif.get f with
          fifo := (s.sif.get f).fifo ++ (s.drawN (s.sif.get f).iop.writeJunk).1
          iop := { (s.sif.get f).iop with
            writeJunk := 0
            cycles := (s.sif.get f).iop.cycles + Config.costIOP f (s.sif.get f).iop.writeJunk } } with
        env := { s.env with draws := s.env.draws + (s.sif.get f).iop.writeJunk } } := by
  generalize hn : (s.sif.get f).iop.writeJunk = n at hf ⊢
  have hpush : (s.drawN n).2.sifPush f (s.drawN n).1 = _ := State.sifPush_of_room (by
    rw [State.length_drawN, State.drawN_eq]
    exact hf)
  simp only [State.iopPushJunk, hn, hpush]
  simp [State.drawN_eq, State.addIopCycles, State.updSif, withSif]

/-- The pad words of a link are discarded (43_fifo_sif.md R436). -/
theorem State.iopPopJunk_of_size (hf : (s.sif.get f).iop.writeJunk ≤ s.sifSize f) :
    s.iopPopJunk f = withSif s f { s.sif.get f with
      fifo := (s.sif.get f).fifo.drop (s.sif.get f).iop.writeJunk
      iop := { (s.sif.get f).iop with
        writeJunk := 0
        cycles := (s.sif.get f).iop.cycles + Config.costIOP f (s.sif.get f).iop.writeJunk } } := by
  simp [State.iopPopJunk, State.sifPop_of_size hf, State.addIopCycles, State.updSif, withSif]

/-- The end of a run requests its event at least one cycle later (43_fifo_sif.md R415). -/
theorem State.endIOP_eq (s : State) (f : Sif) :
    ∃ d, 1 ≤ d ∧ s.endIOP f = withSif s f { s.sif.get f with
      iopEv := some d, iop := { (s.sif.get f).iop with busy := false, last := false, cycles := 0 } } :=
  ⟨_, Nat.le_max_left _ _, rfl⟩

theorem State.fireIopEvent_of_some {d : Nat} (h : (s.sif.get f).iopEv = some d) :
    s.fireIopEvent f = { withSif s f { s.sif.get f with iopEv := none } with
      env := { s.env with out := some (.psxInt f) } } := by
  unfold State.fireIopEvent
  rw [h]
  rfl

theorem State.fireIopEvent_of_none (h : (s.sif.get f).iopEv = none) : s.fireIopEvent f = s := by
  unfold State.fireIopEvent
  rw [h]

/-! ### Holding -/

/-- What keeps a busy IOP half from its step: its FIFO lacks the room or the words for a data word, for the pad words or for
its tag, or it is SIF2's and has no tags (43_fifo_sif.md R403, R443). -/
inductive IopBlocked (s : State) (f : Sif) : Prop where
  | dataPush (hc : 0 < (s.sif.get f).iop.counter) (hp : s.iopPushes f = true) (hf : s.sifFree f = 0)
  | dataPop (hc : 0 < (s.sif.get f).iop.counter) (hp : s.iopPushes f = false) (hf : s.sifSize f = 0)
  | padPush (hc : (s.sif.get f).iop.counter = 0) (hp : s.iopPushes f = true)
      (hf : s.sifFree f < (s.sif.get f).iop.writeJunk)
  | padPop (hc : (s.sif.get f).iop.counter = 0) (hp : s.iopPushes f = false)
      (hf : s.sifSize f < (s.sif.get f).iop.writeJunk)
  | tag (hc : (s.sif.get f).iop.counter = 0) (hj : (s.sif.get f).iop.writeJunk = 0)
      (hl : (s.sif.get f).iop.last = false)
      (hf : f = .sif2 ∨ (f = .sif0 ∧ s.sifFree f < 4) ∨ (f = .sif1 ∧ s.sifSize f < 4))

theorem IopBlocked.iopMove_eq_hold (h : IopBlocked s f) (n : Nat) : s.iopMove f n = hold s := by
  cases hb : (s.sif.get f).iop.busy with
  | false => exact State.iopMove_of_idle hb n
  | true =>
    cases h with
    | dataPush hc hp hf => rw [State.iopMove_of_dataPush hb hc hp, if_neg (by omega)]
    | dataPop hc hp hf => rw [State.iopMove_of_dataPop hb hc hp, if_neg (by omega)]
    | padPush hc hp hf => rw [State.iopMove_of_padPush hb hc (by omega) hp, if_neg (by omega)]
    | padPop hc hp hf => rw [State.iopMove_of_padPop hb hc (by omega) hp, if_neg (by omega)]
    | tag hc hj hl hf => rw [State.iopMove_of_noWords s hb hc hj hl, State.iopTagMove_of_short hf]

end

/-! ### The obligation -/

/-- Settles O60: the start and the event are moves of their own, and each other clause is a case of the half's move. -/
theorem iopHalfSteps : Obligations.IopHalfSteps := by
  unfold Obligations.IopHalfSteps
  intro s rest f n hs x t pushes
  have hpush : t.iopPushes f = true ↔ pushes := t.iopPushes_iff f
  have hpop : t.iopPushes f = false ↔ ¬ pushes := by rw [← hpush, Bool.not_eq_true]
  have hone {m : Nat} (hc : 0 < x.iop.counter) (hm : 0 < m) : chunk 1 (min x.iop.counter m) = 1 :=
    chunk_of_le le_rfl (le_min hc hm)
  have hnext {a : Action} {u v : State} (ha : t.move a = .done (.next u)) (hu : u = v) :
      step (withAgenda s (a :: rest)) = .next v :=
    (step_withAgenda_cons hs a rest).trans (congrArg Move.result (ha.trans (congrArg _ (congrArg _ hu))))
  refine ⟨?start, ?startHeld, fun hb => ?idle, fun h => ?blocked, fun hb hp hc hf => ?dataPush,
    fun w ws hb hp hc hf => ?dataPop, fun hb hp hc hj hf => ?padPush, fun hb hp hc hj hf => ?padPop,
    fun hb hc hj hl => ?last, fun d hd => ?fire, fun hd => ?noEvent⟩
  case start =>
    intro madr tadr words hb
    refine hnext rfl ((if_neg (hb ▸ Bool.false_ne_true)).trans ?_)
    cases f <;> rfl
  case startHeld => exact fun madr tadr words hb => hnext rfl (State.iopStart_of_busy (s := t) hb madr tadr words)
  case idle => exact hnext (State.iopMove_of_idle (s := t) hb n) rfl
  case blocked =>
    refine hnext (IopBlocked.iopMove_eq_hold (s := t) (f := f) ?_ n) rfl
    obtain ⟨hc, hp, hf⟩ | ⟨hc, hp, hf⟩ | ⟨hc, hp, hf⟩ | ⟨hc, hp, hf⟩ | ⟨hc, hj, hl, hf⟩ := h
    · exact .dataPush hc (hpush.mpr hp) hf
    · exact .dataPop hc (hpop.mpr hp) (congrArg List.length hf)
    · exact .padPush hc (hpush.mpr hp) hf
    · exact .padPop hc (hpop.mpr hp) hf
    · exact .tag hc hj hl hf
  case dataPush =>
    have hmove := (State.iopMove_of_dataPush (s := t) hb hc (hpush.mpr hp) 1).trans (if_pos hf)
    exact ⟨_, hnext hmove ((congrArg (t.iopPushData f) (hone hc hf)).trans (State.iopPushData_one hf))⟩
  case dataPop =>
    have hsize : 0 < t.sifSize f := List.length_pos_iff.mpr (hf ▸ List.cons_ne_nil w ws)
    have hmove := (State.iopMove_of_dataPop (s := t) hb hc (hpop.mpr hp) 1).trans (if_pos hsize)
    exact ⟨_, _, hnext hmove ((congrArg (t.iopPopData f) (hone hc hsize)).trans (State.iopPopData_one hf)),
      bytesAt_of_mem_memWrite (s := s) trivial rfl, sameBytesOutside_of_mem_memWrite rfl⟩
  case padPush =>
    have hmove := (State.iopMove_of_padPush (s := t) hb hc hj (hpush.mpr hp) n).trans (if_pos hf)
    exact ⟨_, _, _, t.length_drawN _, hnext hmove (State.iopPushJunk_of_room hf)⟩
  case padPop =>
    have hmove := (State.iopMove_of_padPop (s := t) hb hc hj (hpop.mpr hp) n).trans (if_pos hf)
    exact ⟨_, hnext hmove (State.iopPopJunk_of_size hf)⟩
  case last =>
    obtain ⟨d, hd, hend⟩ := t.endIOP_eq f
    exact ⟨d, hd, hnext (State.iopMove_of_last (s := t) hb hc hj hl n) hend⟩
  case fire => exact hnext rfl (State.fireIopEvent_of_some (s := t) hd)
  case noEvent => exact hnext rfl (State.fireIopEvent_of_none (s := t) hd)

end Sys2Proof.Machine
end

section
/-!
PROOFS. O13, O21 and O49: what a step can make of the VTLB, said once; the initialiser and the MMU model's write of a
page.
-/

namespace Sys2Proof.Machine
open Sys2Proof.Claims

/-! ### The initialiser -/

/-- The VTLB that the first call of the initialiser leaves (44_vtlb.md R505). -/
def Vtlb.generated (v : Vtlb) : Vtlb :=
  { v with dispatch := validSelectors, genCount := v.genCount + 1, codePerm := .rx, init := true }

theorem State.vtlbInit_of_init {s : State} (h : s.vtlb.init = true) : s.vtlbInit = s := if_pos h

theorem State.vtlbInit_of_not_init {s : State} (h : s.vtlb.init = false) :
    s.vtlbInit = { s with vtlb := s.vtlb.generated } := if_neg (by simp [h])

theorem State.vtlbInit_init (s : State) : s.vtlbInit.vtlb.init = true := by
  cases h : s.vtlb.init with
  | true => rw [State.vtlbInit_of_init h, h]
  | false => rw [State.vtlbInit_of_not_init h]; rfl

/-- The initialiser reads and writes the VTLB only. -/
theorem State.vtlbInit_withAgenda (s : State) (l : List Action) :
    (withAgenda s l).vtlbInit = withAgenda s.vtlbInit l := by
  cases h : s.vtlb.init with
  | true => exact (State.vtlbInit_of_init (s := withAgenda s l) h).trans (by rw [State.vtlbInit_of_init h])
  | false =>
    refine (State.vtlbInit_of_not_init (s := withAgenda s l) h).trans ?_
    rw [State.vtlbInit_of_not_init h]
    rfl

theorem step_vtlbInit {s : State} (hs : s.running) (rest : List Action) :
    step (withAgenda s (.vtlbInit :: rest)) = .next (withAgenda s.vtlbInit rest) := by
  rw [step_withAgenda_cons hs, ← State.vtlbInit_withAgenda]
  rfl

/-- Settles O49: the call leaves the VTLB initialised, and an initialised VTLB as it is. -/
theorem vtlbInitIsIdempotent : Obligations.VtlbInitIsIdempotent := by
  unfold Obligations.VtlbInitIsIdempotent
  intro s rest hs
  have hrunning : s.vtlbInit.running := ⟨(s.vtlbInit_faults).trans hs.1, (s.vtlbInit_refused).trans hs.2⟩
  refine ⟨s.vtlbInit, step_vtlbInit hs rest, ?again, ?_⟩
  case again => rw [step_vtlbInit hrunning, State.vtlbInit_of_init s.vtlbInit_init]
  cases h : s.vtlb.init with
  | true => rw [State.vtlbInit_of_init h]; exact ⟨rfl, rfl, h, fun _ => rfl, nofun, Nat.le_succ _⟩
  | false => rw [State.vtlbInit_of_not_init h]; exact ⟨rfl, rfl, rfl, nofun, fun _ => ⟨rfl, rfl, rfl⟩, le_rfl⟩

/-! ### The effects on the VTLB -/

/-- What a step that takes action `a` can make of the VTLB `v` (44_vtlb.md R486, R505, R520). -/
inductive VtlbEffect (a : Action) (v : Vtlb) : Vtlb → Prop where
  | kept : VtlbEffect a v v
  | generated (hinit : v.init = false) : VtlbEffect a v v.generated
  | mmuMap (p : Nat) (e : VtlbEntry) (ha : a = .mmuMap p e) (vmap : List (Nat × VtlbEntry)) :
      VtlbEffect a v { v with vmap := vmap }
  | reset (ha : a = .reset) : VtlbEffect a v .reset

theorem VtlbEffect.of_eq {a : Action} {v w : Vtlb} (h : w = v) : VtlbEffect a v w := h ▸ .kept

theorem HostEffect.vtlb {s s' : State} (h : HostEffect s s') : s'.vtlb = s.vtlb := by
  cases h with
  | env | refused | memWrite | genWrite => rfl
  | chanWrite c r v => exact s.chanWrite_vtlb c r v
  | globalWrite r v => exact s.globalWrite_vtlb r v

theorem State.vtlbInit_vtlbEffect (s : State) (a : Action) : VtlbEffect a s.vtlb s.vtlbInit.vtlb := by
  cases h : s.vtlb.init with
  | true => rw [State.vtlbInit_of_init h]; exact .kept
  | false => rw [State.vtlbInit_of_not_init h]; exact .generated h

/-- A write outside the page map changes nothing (log 11). -/
theorem State.mmuMap_vtlbEffect (s : State) (p : Nat) (e : VtlbEntry) :
    VtlbEffect (.mmuMap p e) s.vtlb (s.mmuMap p e).vtlb := by
  unfold State.mmuMap
  split
  · exact .mmuMap p e rfl _
  · exact .kept

/-- What every form of a step makes of the VTLB: an engine's by its frame, any other's by the operation it runs. -/
theorem StepForm.vtlbEffect {s s' : State} {a : Action} (hs : StepForm s a s') : VtlbEffect a s.vtlb s'.vtlb := by
  by_cases hengine : ∃ c n, a = .engine c n
  · obtain ⟨c, n, rfl⟩ := hengine
    exact .of_eq hs.engineFrame.vtlb
  cases hs with
  | tagBusError | srcTag | dstTagSif0 | dstTagSpr0 | transfer | refetch | wake => exact absurd ⟨_, _, rfl⟩ hengine
  | host _ _ _ ha he => exact .of_eq (StepForm.hostEffect ha he).vtlb
  | interpLoad _ _ _ _ _ he => exact .of_eq (interpLoad_hostEffect he).vtlb
  | interpStore _ _ _ _ _ he => exact .of_eq (interpStore_hostEffect he).vtlb
  | vtlbInit => exact s.vtlbInit_vtlbEffect _
  | mmuMap p e => exact s.mmuMap_vtlbEffect p e
  | reset => exact .reset rfl
  | iopTagSif0 _ _ _ _ _ _ _ _ he | iopTagSif1 _ _ _ _ _ _ _ _ he => cases he; exact .of_eq (by simp)
  | held | refused | ipuRequest => exact .kept
  | iopPushData | iopPopData | iopPushJunk | iopPopJunk | iopEnd | fire | fireIop | iopStart | ipuPush | ipuPop
  | extPump | extSchedule | mfifoEmpty | iopCpuStore => exact .of_eq (by simp)

theorem vtlbEffect_of_step {s s' : State} (h : step s = .next s') : VtlbEffect s.head s.vtlb s'.vtlb := by
  obtain ⟨_, hform⟩ := step_form_withEnv h
  exact hform.vtlbEffect

/-- Settles O13: the initialiser takes the first form to the second, once; a page-map write keeps the form, and reset
goes back to the first. -/
theorem stepKeepsVtlbWriteXorExec : Obligations.StepKeepsVtlbWriteXorExec := by
  unfold Obligations.StepKeepsVtlbWriteXorExec State.vtlbWriteXorExec
  intro s s' hform hs
  have heffect := vtlbEffect_of_step hs
  generalize s'.vtlb = v' at heffect ⊢
  cases heffect with
  | kept | mmuMap => exact hform
  | generated hinit =>
    obtain ⟨-, -, -, hcount⟩ | ⟨htrue, -⟩ := hform
    · exact .inr ⟨rfl, rfl, rfl, congrArg (· + 1) hcount⟩
    · exact absurd (hinit.symm.trans htrue) Bool.false_ne_true
  | reset => exact .inl ⟨rfl, rfl, rfl, rfl⟩

/-! ### The page map -/

/-- What the MMU model's write of a page leaves (44_vtlb.md R486). -/
theorem State.mmuMap_of_lt {s : State} {p : Nat} (hp : p < 2 ^ (s.params.vaddrBits - s.params.vtlbPageBits))
    (e : VtlbEntry) : s.mmuMap p e = { s with vtlb := { s.vtlb with vmap := cellInsert s.vtlb.vmap p e } } := if_pos hp

theorem State.vtlbEntry_mmuMap {s : State} {p : Nat} (hp : p < 2 ^ (s.params.vaddrBits - s.params.vtlbPageBits))
    (e : VtlbEntry) (q : Nat) : (s.mmuMap p e).vtlbEntry q = if q = p then e else s.vtlbEntry q := by
  rw [State.mmuMap_of_lt hp]
  unfold State.vtlbEntry
  simp only [cellGet_insert, eq_comm]

/-- Settles O21: of the effects on the VTLB only the page map's is open after initialisation, and only the MMU model has
it. -/
theorem vtlbIsImmutableAfterInit : Obligations.VtlbIsImmutableAfterInit := by
  unfold Obligations.VtlbIsImmutableAfterInit
  refine ⟨fun s s' hs hreset => ?step, fun s rest p e hs hp => ?write⟩
  case step =>
    have heffect := vtlbEffect_of_step hs
    generalize s'.vtlb = v' at heffect ⊢
    cases heffect with
    | kept => exact ⟨fun _ => rfl, fun hne => absurd rfl hne⟩
    | generated hinit => exact ⟨fun h => absurd (hinit.symm.trans h) Bool.false_ne_true, fun hne => absurd rfl hne⟩
    | mmuMap p e ha => exact ⟨fun _ => rfl, fun _ => ⟨p, e, ha⟩⟩
    | reset ha => exact absurd ha hreset
  case write =>
    refine ⟨_, step_withAgenda_cons hs (.mmuMap p e) rest, ?_, State.vtlbEntry_mmuMap (s := withAgenda s rest) hp e⟩
    rw [State.mmuMap_of_lt (s := withAgenda s rest) hp]
    rfl

end Sys2Proof.Machine
end

section
/-!
PROOFS. The rules of a VTLB access: what an address resolves to, what the interpreted load and store do where it ends,
and each dispatcher as its interpreted access (44_vtlb.md R485, R491, R492, R507).
-/

namespace Sys2Proof.Machine
open Sys2Proof.Claims

/-! ### Where an access ends -/

theorem State.vtlbLookup_of_direct {s : State} {va : Word} {r : Region} {base : Nat}
    (h : s.vtlbEntry (page s va) = .direct r base) : s.vtlbLookup va = .direct r (base + offset s va) := by
  unfold page at h
  unfold State.vtlbLookup
  rw [h]
  rfl

theorem State.vtlbLookup_of_handler {s : State} {va : Word} {h : HandlerId} {pb : Word}
    (he : s.vtlbEntry (page s va) = .handler h pb) :
    s.vtlbLookup va = .handler h (pb + BitVec.ofNat 32 (offset s va)) := by
  unfold page at he
  unfold State.vtlbLookup
  rw [he]
  rfl

theorem State.resolve_of_maps {s : State} {w : Width} {va : Word} {r : Region} {off : Nat}
    (h : Maps s va r off w.bytes) : s.resolve w va = .direct r off := by
  obtain ⟨⟨base, hentry, rfl⟩, hsize⟩ := h
  exact State.resolve_direct.mpr ⟨State.vtlbLookup_of_direct hentry, decide_eq_true hsize⟩

theorem State.resolve_of_handler {s : State} {va : Word} {h : HandlerId} {pb : Word}
    (he : s.vtlbEntry (page s va) = .handler h pb) (w : Width) :
    s.resolve w va = .handler h (pb + BitVec.ofNat 32 (offset s va)) :=
  State.resolve_handler.mpr (.inl (State.vtlbLookup_of_handler he))

theorem State.resolve_of_calls {s : State} {w : Width} {va pa : Word} {h : HandlerId} (hc : Calls s va w h pa) :
    h ≠ .dmac ∧ s.resolve w va = .handler h pa := by
  obtain ⟨hne, pb, hentry, rfl⟩ | ⟨rfl, rfl, r, base, hentry, hsize⟩ := hc
  · exact ⟨hne, State.resolve_of_handler hentry w⟩
  · refine ⟨nofun, State.resolve_handler.mpr (.inr ⟨rfl, rfl, r, _, State.vtlbLookup_of_direct hentry, ?_⟩)⟩
    exact decide_eq_false (Nat.not_le.mpr hsize)

/-- A memory in which a byte exists is one that the machine has. -/
theorem State.has_of_regionSize_pos {s : State} {r : Region} (h : 0 < s.regionSize r) : s.mem.has r := by
  cases r with
  | ram | spr | iopRam => trivial
  | extra i =>
    by_contra hi
    have hnone : s.mem.extra[i]? = none := List.getElem?_eq_none (Nat.not_lt.mp hi)
    simp [State.regionSize, hnone] at h

/-! ### The interpreted accesses -/

section
variable {s : State} {w : Width} {va : Word}

theorem interpLoad_of_misaligned (ha : va.toNat % w.bytes ≠ 0) (sign : Bool) :
    interpLoad w sign va s = .next (s.refuse (.misalignedAccess va w)) := if_neg (by simpa [aligned] using ha)

theorem interpStore_of_misaligned (ha : va.toNat % w.bytes ≠ 0) (v : Quad) :
    interpStore w va v s = .next (s.refuse (.misalignedAccess va w)) := if_neg (by simpa [aligned] using ha)

variable (ha : va.toNat % w.bytes = 0)
include ha

theorem interpLoad_of_direct {r : Region} {off : Nat} (hr : s.resolve w va = .direct r off) (sign : Bool) :
    interpLoad w sign va s = .next (s.setRet (loadResult w sign (s.memRead r off w.bytes))) := by
  unfold interpLoad aligned
  rw [if_pos (beq_iff_eq.mpr ha), hr]

theorem interpLoad_of_dmac {pa : Word} (hr : s.resolve w va = .handler .dmac pa) (sign : Bool) :
    interpLoad w sign va s = dmacLoad w sign pa s := by
  unfold interpLoad aligned
  rw [if_pos (beq_iff_eq.mpr ha), hr]
  exact if_pos rfl

theorem interpLoad_of_external {h : HandlerId} {pa : Word} (hh : h ≠ .dmac) (hr : s.resolve w va = .handler h pa)
    (sign : Bool) : interpLoad w sign va s = externLoad h w sign pa s := by
  unfold interpLoad aligned
  rw [if_pos (beq_iff_eq.mpr ha), hr]
  exact if_neg hh

theorem interpStore_of_direct {r : Region} {off : Nat} (hr : s.resolve w va = .direct r off) (v : Quad) :
    interpStore w va v s = .next (s.memWrite r off w.bytes v) := by
  unfold interpStore aligned
  rw [if_pos (beq_iff_eq.mpr ha), hr]

theorem interpStore_of_dmac {pa : Word} (hr : s.resolve w va = .handler .dmac pa) (v : Quad) :
    interpStore w va v s = dmacStore w pa v s := by
  unfold interpStore aligned
  rw [if_pos (beq_iff_eq.mpr ha), hr]
  exact if_pos rfl

theorem interpStore_of_external {h : HandlerId} {pa : Word} (hh : h ≠ .dmac) (hr : s.resolve w va = .handler h pa)
    (v : Quad) : interpStore w va v s = externStore h w pa v s := by
  unfold interpStore aligned
  rw [if_pos (beq_iff_eq.mpr ha), hr]
  exact if_neg hh

end

/-! ### The DMAC handler -/

/-- The DMAC handler refuses every width but 32 bits (40_registers.md R202). -/
theorem dmacLoad_of_ne_w32 {w : Width} (hw : w ≠ .w32) (sign : Bool) (pa : Word) (s : State) :
    dmacLoad w sign pa s = .next (s.refuse (.unmodelledAccess pa w)) := by
  cases w with
  | w32 => exact absurd rfl hw
  | w8 | w16 | w64 | w128 => rfl

theorem dmacStore_of_ne_w32 {w : Width} (hw : w ≠ .w32) (pa : Word) (v : Quad) (s : State) :
    dmacStore w pa v s = .next (s.refuse (.unmodelledAccess pa w)) := by
  cases w with
  | w32 => exact absurd rfl hw
  | w8 | w16 | w64 | w128 => rfl

/-- What a 32-bit load through the DMAC handler comes to, from what the register read gives. -/
def readOutcome (s : State) (pa : Word) (sign : Bool) : Option Word → Result
  | some x => .next (returned s (.dword (if sign then x.signExtend 64 else (0 : Word) ++ x)))
  | none => .next (s.refuse (.unmodelledAccess pa .w32))

/-- What a 32-bit store through the DMAC handler comes to, from what the register write gives. -/
def writeOutcome (s : State) (pa : Word) : Option State → Result
  | some s' => .next s'
  | none => .next (s.refuse (.unmodelledAccess pa .w32))

theorem dmacLoad_w32 (sign : Bool) (pa : Word) (s : State) :
    dmacLoad .w32 sign pa s = readOutcome s pa sign (s.dmacRead32 pa) := by
  unfold dmacLoad
  cases s.dmacRead32 pa with
  | none => rfl
  | some x =>
    have hx : ((x.setWidth 128).setWidth 32 : Word) = x := by simp
    have hzero : x.setWidth 64 = (0 : Word) ++ x := BitVec.setWidth_eq_append (by omega)
    cases sign with
    | false => simp only [loadResult, hx, hzero]; rfl
    | true => simp only [loadResult, hx]; rfl

theorem dmacStore_w32 (pa : Word) (v : Quad) (s : State) :
    dmacStore .w32 pa v s = writeOutcome s pa (s.dmacWrite32 pa (v.extractLsb' 0 32)) := by
  unfold dmacStore
  rw [← BitVec.setWidth_eq_extractLsb' (by omega)]
  cases s.dmacWrite32 pa (v.setWidth 32) <;> rfl

/-! ### The dispatchers -/

/-- The access of a dispatcher, through the interpreted lookup. -/
def interpAccess (store : Bool) (w : Width) (sign : Bool) (va : Word) (v : Quad) (s : State) : Result :=
  if store then interpStore w va v s else interpLoad w sign va s

theorem interpAccess_of_misaligned {w : Width} {va : Word} (ha : va.toNat % w.bytes ≠ 0) (store sign : Bool) (v : Quad)
    (s : State) : interpAccess store w sign va v s = .next (s.refuse (.misalignedAccess va w)) := by
  cases store with
  | false => exact interpLoad_of_misaligned ha sign
  | true => exact interpStore_of_misaligned ha v

/-- A dispatcher is its interpreted access, once it has been generated (44_vtlb.md R495, R507). -/
theorem exec_of_dispatcher {store : Bool} {w : Width} {sign : Bool} {va : Word} {v : Quad} {i : Instr}
    (h : dispatcher? (selector store w sign) va v = some i) (s : State) :
    exec i s = if s.hasDispatcher (selector store w sign) then interpAccess store w sign va v s
      else .next (s.refuse (.dispatchBeforeInit va w)) := by
  cases store <;> cases w <;> cases sign <;> cases h <;> rfl

theorem exec_of_initialised {s : State} (hs : initialised s) {store : Bool} {w : Width} {sign : Bool} {va : Word}
    {v : Quad} {i : Instr} (h : dispatcher? (selector store w sign) va v = some i) :
    exec i s = interpAccess store w sign va v s := by
  obtain ⟨hinit, hdispatch⟩ := hs
  rw [exec_of_dispatcher h, if_pos]
  simpa [State.hasDispatcher, hinit, hdispatch] using mem_validSelectors_of_dispatcher h

theorem exec_of_not_init {s : State} (hs : s.vtlb.init = false) {store : Bool} {w : Width} {sign : Bool} {va : Word}
    {v : Quad} {i : Instr} (h : dispatcher? (selector store w sign) va v = some i) :
    exec i s = .next (s.refuse (.dispatchBeforeInit va w)) := by
  rw [exec_of_dispatcher h, if_neg]
  simp [State.hasDispatcher, hs]

/-- Each of the 13 accesses is the dispatcher of a selector (44_vtlb.md R490). -/
theorem dispatcher_of_mem_accesses {va : Word} {v : Quad} {i : Instr} {w : Width}
    (h : (i, w) ∈ accesses va v) : ∃ store sign, dispatcher? (selector store w sign) va v = some i := by
  simp only [accesses, List.mem_cons, List.not_mem_nil, or_false, Prod.mk.injEq] at h
  obtain ⟨rfl, rfl⟩ | ⟨rfl, rfl⟩ | ⟨rfl, rfl⟩ | ⟨rfl, rfl⟩ | ⟨rfl, rfl⟩ | ⟨rfl, rfl⟩ | ⟨rfl, rfl⟩ | ⟨rfl, rfl⟩ |
    ⟨rfl, rfl⟩ | ⟨rfl, rfl⟩ | ⟨rfl, rfl⟩ | ⟨rfl, rfl⟩ | ⟨rfl, rfl⟩ := h
  exacts [⟨false, false, rfl⟩, ⟨false, true, rfl⟩, ⟨false, false, rfl⟩, ⟨false, true, rfl⟩, ⟨false, false, rfl⟩,
    ⟨false, true, rfl⟩, ⟨false, false, rfl⟩, ⟨false, false, rfl⟩, ⟨true, false, rfl⟩, ⟨true, false, rfl⟩,
    ⟨true, false, rfl⟩, ⟨true, false, rfl⟩, ⟨true, false, rfl⟩]

end Sys2Proof.Machine
end

section
/-!
PROOFS. O44 and O45: the loads and the stores on a Direct page.
-/

namespace Sys2Proof.Machine
open Sys2Proof.Claims

/-! ### The value of bytes -/

theorem leNat_lt (bs : List Byte) : leNat bs < 2 ^ (8 * bs.length) := by
  induction bs with
  | nil => exact Nat.one_pos
  | cons b bs ih =>
    have hb := b.isLt
    rw [List.length_cons, Nat.mul_add, Nat.pow_add]
    simp only [leNat]
    omega

/-- Up to sixteen bytes fit in a quadword (20_memory.md R110). -/
theorem toNat_ofLeBytes {bs : List Byte} (h : bs.length ≤ 16) : (ofLeBytes bs).toNat = leNat bs := by
  induction bs with
  | nil => rfl
  | cons b bs ih =>
    rw [List.length_cons] at h
    have hfit : leNat bs * 2 ^ 8 < 2 ^ 128 := by
      have hlt := leNat_lt bs
      have hpow : 2 ^ (8 * bs.length) ≤ 2 ^ 120 := Nat.pow_le_pow_right (by omega) (by omega)
      omega
    rw [ofLeBytes, BitVec.toNat_or, BitVec.toNat_shiftLeft, ih (by omega), Nat.shiftLeft_eq, Nat.mod_eq_of_lt hfit,
      BitVec.toNat_setWidth_of_le (by omega), Nat.mul_comm, ← Nat.two_pow_add_eq_or_of_lt b.isLt, Nat.add_comm]
    rfl

theorem Memory.readBytes_eq_map (m : Memory) (a n : Nat) :
    m.readBytes a n = (List.range n).map fun i => m.read (a + i) := by
  induction n generalizing a with
  | zero => rfl
  | succ n ih =>
    rw [Memory.readBytes, ih, List.range_succ_eq_map, List.map_cons, List.map_map]
    simp [Function.comp_def, Nat.add_assoc, Nat.add_comm 1]

/-- The bytes of an access, as a number. -/
theorem State.toNat_memRead (s : State) (r : Region) (a : Nat) {n : Nat} (hn : n ≤ 16) :
    (s.memRead r a n).toNat = valueAt s r a n := by
  rw [State.memRead, toNat_ofLeBytes (by rwa [Memory.length_readBytes]), Memory.readBytes_eq_map]
  rfl

theorem valueAt_lt (s : State) (r : Region) (a n : Nat) : valueAt s r a n < 2 ^ (8 * n) := by
  have h := leNat_lt ((List.range n).map fun i => s.readByte r (a + i))
  rwa [List.length_map, List.length_range] at h

/-! ### Loads -/

/-- Sign extension to 64 bits, of a number (44_vtlb.md R491). -/
theorem signExtend_ofNat {b n : Nat} (hb : 0 < b) (hn : n < 2 ^ b) :
    (BitVec.ofNat b n).signExtend 64 = signed64 b n := by
  have hpow : 2 ^ b = 2 * 2 ^ (b - 1) := by rw [← Nat.pow_succ', Nat.succ_eq_add_one, Nat.sub_add_cancel hb]
  unfold BitVec.signExtend signed64
  rw [BitVec.toInt_eq_toNat_cond, BitVec.toNat_ofNat, Nat.mod_eq_of_lt hn]
  congr 1
  by_cases hneg : n < 2 ^ (b - 1)
  · rw [if_pos hneg, if_pos (by omega)]
  · rw [if_neg hneg, if_neg (by omega)]
    push_cast
    rfl

theorem signExtend_setWidth {b : Nat} {q : Quad} (hb : 0 < b) (hq : q.toNat < 2 ^ b) :
    (q.setWidth b).signExtend 64 = signed64 b q.toNat := by
  rw [← BitVec.ofNat_toNat, signExtend_ofNat hb hq]

theorem setWidth_setWidth_eq_ofNat {b : Nat} {q : Quad} (hq : q.toNat < 2 ^ b) :
    (q.setWidth b).setWidth 64 = BitVec.ofNat 64 q.toNat := by
  rw [← BitVec.ofNat_toNat 64, BitVec.toNat_setWidth, Nat.mod_eq_of_lt hq]

/-- What a load of width `w` returns of the number `n` that its bytes make (44_vtlb.md R491). -/
def loadedValue (w : Width) (sign : Bool) (n : Nat) : Returned :=
  match w with
  | .w128 => .quad (BitVec.ofNat 128 n)
  | _ => .dword (if sign then signed64 (8 * w.bytes) n else BitVec.ofNat 64 n)

theorem loadResult_eq_loadedValue {w : Width} {sign : Bool} {q : Quad} (hsel : selector false w sign ∈ validSelectors)
    (hq : q.toNat < 2 ^ (8 * w.bytes)) : loadResult w sign q = loadedValue w sign q.toNat := by
  cases w with
  | w8 | w16 | w32 =>
    cases sign with
    | false => exact congrArg Returned.dword (setWidth_setWidth_eq_ofNat hq)
    | true => exact congrArg Returned.dword (signExtend_setWidth (by decide) hq)
  | w64 =>
    cases sign with
    | false => exact congrArg Returned.dword (BitVec.ofNat_toNat 64 q).symm
    | true => exact absurd hsel (by decide)
  | w128 => exact congrArg Returned.quad ((BitVec.ofNat_toNat 128 q).trans q.setWidth_eq).symm

theorem width_bytes_le (w : Width) : w.bytes ≤ 16 := by cases w <;> decide
theorem width_bytes_pos (w : Width) : 0 < w.bytes := by cases w <;> decide

/-- A load on a Direct page returns the value of its bytes. -/
theorem exec_load_of_maps {s : State} (hs : initialised s) {w : Width} {sign : Bool} {va : Word} {i : Instr}
    {r : Region} {off : Nat} (hi : dispatcher? (selector false w sign) va 0 = some i) (ha : va.toNat % w.bytes = 0)
    (hm : Maps s va r off w.bytes) :
    exec i s = .next (returned s (loadedValue w sign (valueAt s r off w.bytes))) := by
  have hvalue : (s.memRead r off w.bytes).toNat = valueAt s r off w.bytes := s.toNat_memRead r off (width_bytes_le w)
  calc exec i s
    _ = interpLoad w sign va s := exec_of_initialised hs hi
    _ = .next (s.setRet (loadResult w sign (s.memRead r off w.bytes))) :=
      interpLoad_of_direct ha (State.resolve_of_maps hm) sign
    _ = .next (returned s (loadedValue w sign (valueAt s r off w.bytes))) := by
      rw [loadResult_eq_loadedValue (mem_validSelectors_of_dispatcher hi) (hvalue ▸ valueAt_lt s r off w.bytes), hvalue]
      rfl

/-- Settles O44: each of the eight loads is the load of its width and sign. -/
theorem loadsReadMemory : Obligations.LoadsReadMemory := by
  unfold Obligations.LoadsReadMemory
  intro s va r off hs
  refine ⟨fun hm => ⟨?_, ?_⟩, fun ha hm => ⟨?_, ?_⟩, fun ha hm => ⟨?_, ?_⟩, fun ha hm => ?_, fun ha hm => ?_⟩
  · exact exec_load_of_maps (w := .w8) (sign := false) hs rfl (Nat.mod_one _) hm
  · exact exec_load_of_maps (w := .w8) (sign := true) hs rfl (Nat.mod_one _) hm
  · exact exec_load_of_maps (w := .w16) (sign := false) hs rfl ha hm
  · exact exec_load_of_maps (w := .w16) (sign := true) hs rfl ha hm
  · exact exec_load_of_maps (w := .w32) (sign := false) hs rfl ha hm
  · exact exec_load_of_maps (w := .w32) (sign := true) hs rfl ha hm
  · exact exec_load_of_maps (w := .w64) (sign := false) hs rfl ha hm
  · exact exec_load_of_maps (w := .w128) (sign := false) hs rfl ha hm

/-! ### Stores -/

/-- A store on a Direct page is a write of its bytes (44_vtlb.md R492). -/
theorem exec_store_of_maps {s : State} (hs : initialised s) {w : Width} {va : Word} {v : Quad} {i : Instr}
    {r : Region} {off : Nat} (hi : dispatcher? (selector true w false) va v = some i) (ha : va.toNat % w.bytes = 0)
    (hm : Maps s va r off w.bytes) : exec i s = .next (s.memWrite r off w.bytes v) :=
  (exec_of_initialised hs hi).trans (interpStore_of_direct ha (State.resolve_of_maps hm) v)

/-- Settles O45: each of the five stores is the store of its width, and the memory it names is one the machine has. -/
theorem storesWriteMemory : Obligations.StoresWriteMemory := by
  unfold Obligations.StoresWriteMemory
  intro s va v r off hs p hp ha hm
  have hwidth : ∃ w : Width, w.bytes = p.2 ∧ dispatcher? (selector true w false) va v = some p.1 := by
    simp only [List.mem_cons, List.not_mem_nil, or_false] at hp
    obtain rfl | rfl | rfl | rfl | rfl := hp
    exacts [⟨.w8, rfl, rfl⟩, ⟨.w16, rfl, rfl⟩, ⟨.w32, rfl, rfl⟩, ⟨.w64, rfl, rfl⟩, ⟨.w128, rfl, rfl⟩]
  obtain ⟨w, hw, hi⟩ := hwidth
  rw [← hw] at ha hm ⊢
  have hhas : s.mem.has r := by
    obtain ⟨-, hsize⟩ := hm
    exact State.has_of_regionSize_pos (lt_of_lt_of_le (width_bytes_pos w) (le_of_add_le_right hsize))
  exact ⟨_, exec_store_of_maps hs hi ha hm, rfl, bytesAt_of_mem_memWrite hhas rfl, sameBytesOutside_of_mem_memWrite rfl⟩

end Sys2Proof.Machine
end

section
/-!
PROOFS. O46: the accesses that end at a handler, the DMAC's or another.
-/

namespace Sys2Proof.Machine
open Sys2Proof.Claims

/-! ### The DMAC handler -/

theorem isGeneric_of_decodeMmio {pa a : Word} (h : decodeMmio pa = .generic a) : pa = a ∧ isGeneric a = true := by
  obtain ⟨rfl, -⟩ := decodeMmio_eq_iff.mp h
  exact ⟨rfl, decide_eq_true h⟩

section
variable {s : State} {va : Word} {pb : Word} (hs : initialised s)
  (he : s.vtlbEntry (page s va) = .handler .dmac pb)
include hs he

/-- An access through the DMAC handler that is not 32-bit is refused. -/
theorem exec_dmac_of_ne_w32 {v : Quad} {i : Instr} {w : Width} (hi : (i, w) ∈ accesses va v) (hw : w ≠ .w32)
    (ha : va.toNat % w.bytes = 0) :
    exec i s = .next (refusing s (.unmodelledAccess (pb + BitVec.ofNat 32 (offset s va)) w)) := by
  obtain ⟨store, sign, hsel⟩ := dispatcher_of_mem_accesses hi
  rw [exec_of_initialised hs hsel]
  cases store with
  | false => exact (interpLoad_of_dmac ha (State.resolve_of_handler he w) sign).trans (dmacLoad_of_ne_w32 hw ..)
  | true => exact (interpStore_of_dmac ha (State.resolve_of_handler he w) v).trans (dmacStore_of_ne_w32 hw ..)

variable (ha : va.toNat % 4 = 0)
include ha

theorem exec_store32_dmac (v : Quad) :
    exec (.store32 va v) s = writeOutcome s (pb + BitVec.ofNat 32 (offset s va))
      (s.dmacWrite32 (pb + BitVec.ofNat 32 (offset s va)) (v.extractLsb' 0 32)) := by
  rw [exec_of_initialised (store := true) (w := .w32) (sign := false) hs rfl, ← dmacStore_w32]
  exact interpStore_of_dmac ha (State.resolve_of_handler he .w32) v

theorem exec_load32_dmac {i : Instr} {sign : Bool} (hi : dispatcher? (selector false .w32 sign) va 0 = some i) :
    exec i s = readOutcome s (pb + BitVec.ofNat 32 (offset s va)) sign
      (s.dmacRead32 (pb + BitVec.ofNat 32 (offset s va))) := by
  rw [exec_of_initialised hs hi, ← dmacLoad_w32]
  exact interpLoad_of_dmac ha (State.resolve_of_handler he .w32) sign

/-- The 32-bit accesses through the DMAC handler, from what the register read and write at the physical address give. -/
theorem exec_w32_dmac (v : Quad) {x : Option Word} {t : Option State}
    (hread : s.dmacRead32 (pb + BitVec.ofNat 32 (offset s va)) = x)
    (hwrite : s.dmacWrite32 (pb + BitVec.ofNat 32 (offset s va)) (v.extractLsb' 0 32) = t) :
    exec (.store32 va v) s = writeOutcome s (pb + BitVec.ofNat 32 (offset s va)) t
      ∧ exec (.load32u va) s = readOutcome s (pb + BitVec.ofNat 32 (offset s va)) false x
      ∧ exec (.load32s va) s = readOutcome s (pb + BitVec.ofNat 32 (offset s va)) true x := by
  subst hread hwrite
  exact ⟨exec_store32_dmac hs he ha v, exec_load32_dmac hs he ha rfl, exec_load32_dmac hs he ha rfl⟩

end

/-! ### The other handlers -/

theorem setWidth_setWidth_eq_and (v : Quad) (n : Nat) (hn : n ≤ 128) :
    (v.setWidth n).setWidth 128 = v &&& BitVec.ofNat 128 (2 ^ n - 1) := by
  have hpow : 2 ^ n ≤ 2 ^ 128 := Nat.pow_le_pow_right (by omega) hn
  have hpos : 0 < 2 ^ n := Nat.two_pow_pos n
  apply BitVec.eq_of_toNat_eq
  rw [BitVec.toNat_and, BitVec.toNat_ofNat, Nat.mod_eq_of_lt (by omega), Nat.and_two_pow_sub_one_eq_mod,
    BitVec.toNat_setWidth_of_le hn, BitVec.toNat_setWidth]

/-- Each of the five stores is the dispatcher of its width, and passes on the low bits of its value
(44_vtlb.md R492). -/
theorem dispatcher_of_mem_stores {va : Word} {v u : Quad} {i : Instr} {w : Width} (h : (i, w, u) ∈ stores va v) :
    dispatcher? (selector true w false) va v = some i ∧ u = lowBits w v := by
  simp only [stores, List.mem_cons, List.not_mem_nil, or_false, Prod.mk.injEq] at h
  obtain ⟨rfl, rfl, rfl⟩ | ⟨rfl, rfl, rfl⟩ | ⟨rfl, rfl, rfl⟩ | ⟨rfl, rfl, rfl⟩ | ⟨rfl, rfl, rfl⟩ := h
  · exact ⟨rfl, (setWidth_setWidth_eq_and v 8 (by decide)).symm⟩
  · exact ⟨rfl, (setWidth_setWidth_eq_and v 16 (by decide)).symm⟩
  · exact ⟨rfl, (setWidth_setWidth_eq_and v 32 (by decide)).symm⟩
  · exact ⟨rfl, (setWidth_setWidth_eq_and v 64 (by decide)).symm⟩
  · exact ⟨rfl, rfl⟩

/-- Each of the eight loads is the dispatcher of its width, and returns the value read extended as its sign says
(44_vtlb.md R491). -/
theorem dispatcher_of_mem_loads {va : Word} {q : Quad} {x : Returned} {i : Instr} {w : Width}
    (h : (i, w, x) ∈ loads va q) :
    ∃ sign, dispatcher? (selector false w sign) va 0 = some i ∧ x = loadResult w sign (lowBits w q) := by
  have hlow (b : Nat) (hb : b ≤ 128) : q.extractLsb' 0 b = ((q.setWidth b).setWidth 128).setWidth b := by
    rw [← BitVec.setWidth_eq_extractLsb' hb, BitVec.setWidth_setWidth_of_le _ hb, BitVec.setWidth_eq]
  simp only [loads, List.mem_cons, List.not_mem_nil, or_false, Prod.mk.injEq] at h
  obtain ⟨rfl, rfl, rfl⟩ | ⟨rfl, rfl, rfl⟩ | ⟨rfl, rfl, rfl⟩ | ⟨rfl, rfl, rfl⟩ | ⟨rfl, rfl, rfl⟩ | ⟨rfl, rfl, rfl⟩ |
    ⟨rfl, rfl, rfl⟩ | ⟨rfl, rfl, rfl⟩ := h
  · exact ⟨false, rfl, by rw [hlow 8 (by decide)]; rfl⟩
  · exact ⟨true, rfl, by rw [hlow 8 (by decide)]; rfl⟩
  · exact ⟨false, rfl, by rw [hlow 16 (by decide)]; rfl⟩
  · exact ⟨true, rfl, by rw [hlow 16 (by decide)]; rfl⟩
  · exact ⟨false, rfl, by rw [hlow 32 (by decide)]; rfl⟩
  · exact ⟨true, rfl, by rw [hlow 32 (by decide)]; rfl⟩
  · exact ⟨false, rfl, by rw [hlow 64 (by decide)]; rfl⟩
  · exact ⟨false, rfl, rfl⟩

/-- The widths of the eight loads, in their order. -/
def loadWidths : List Width := [.w8, .w8, .w16, .w16, .w32, .w32, .w64, .w128]

theorem getElem?_loadWidths {va : Word} {q : Quad} {k : Nat} {p : Instr × Width × Returned}
    (h : (loads va q)[k]? = some p) : loadWidths[k]? = some p.2.1 := by
  rw [show loadWidths = (loads va q).map (·.2.1) from rfl, List.getElem?_map, h]
  rfl

/-- Settles O46: through the DMAC handler a 32-bit access is what the register read or write at the physical address
gives; another handler is called. -/
theorem handlerAccesses : Obligations.HandlerAccesses := by
  unfold Obligations.HandlerAccesses
  intro s va v hs
  refine ⟨fun pb he => ⟨fun ha => ⟨fun c r hd => ?chan, fun g hd => ?global, fun a hd => ?generic, fun hd => ?none⟩,
    fun p hp hw ha => exec_dmac_of_ne_w32 hs he hp hw ha⟩, fun p hp h pa ha hc => ?store, fun k h pa => ?load⟩
  case chan =>
    have haccess := exec_w32_dmac hs he ha v (x := some (shown (s.chan.get c) r))
      (t := some (s.chanWrite c r (v.extractLsb' 0 32))) (by rw [State.dmacRead32, hd, ← Chan.read_eq_shown])
      (by rw [State.dmacWrite32, hd])
    rwa [exec_swChan]
  case global =>
    have haccess := exec_w32_dmac hs he ha v (x := some (shownGlobal s.g g))
      (t := some (s.globalWrite g (v.extractLsb' 0 32))) (by rw [State.dmacRead32, hd, ← Globals.read_eq_shownGlobal])
      (by rw [State.dmacWrite32, hd])
    rwa [exec_swGlobal]
  case generic =>
    obtain ⟨-, hgeneric⟩ := isGeneric_of_decodeMmio hd
    have haccess := exec_w32_dmac hs he ha v (x := some (s.genRead a))
      (t := some (s.genWrite a (v.extractLsb' 0 32))) (by rw [State.dmacRead32, hd]) (by rw [State.dmacWrite32, hd])
    rwa [exec_swGen hgeneric]
  case none =>
    refine exec_w32_dmac hs he ha v (x := none) (t := none) ?_ ?_
    · obtain hd | hd := hd <;> rw [State.dmacRead32, hd]
    · obtain hd | hd := hd <;> rw [State.dmacWrite32, hd]
  case store =>
    obtain ⟨i, w, u⟩ := p
    obtain ⟨hi, rfl⟩ := dispatcher_of_mem_stores hp
    obtain ⟨hne, hr⟩ := State.resolve_of_calls hc
    exact (exec_of_initialised hs hi).trans (interpStore_of_external ha hne hr v)
  case load =>
    refine ⟨Config.handlerRead h (loadWidths[k]?.getD .w8) pa s.env.draws, s.env.draws + 1, ?_⟩
    rintro ⟨i, w, x⟩ hp ha hc
    obtain ⟨sign, hi, hx⟩ := dispatcher_of_mem_loads (List.mem_of_getElem? hp)
    obtain ⟨hne, hr⟩ := State.resolve_of_calls hc
    rw [getElem?_loadWidths hp, Option.getD_some] at hx
    rw [hx]
    exact (exec_of_initialised hs hi).trans (interpLoad_of_external ha hne hr sign)

end Sys2Proof.Machine
end

section
/-!
PROOFS. O47 and O48: the accesses that are refused, and the dispatchers against the interpreted lookup.
-/

namespace Sys2Proof.Machine
open Sys2Proof.Claims

/-! ### A state that stops -/

theorem step_of_refused {s : State} {e : Refusal} (hf : s.faults = []) (hr : s.refused = some e) :
    step s = .refused e := by
  have hmove : s.nextMove = .done (.refused e) := by
    unfold State.nextMove
    rw [hf, hr]
  unfold step
  rw [hmove]

theorem step_of_fault {s : State} {r : FaultRecord} {rs : List FaultRecord} (hf : s.faults = r :: rs) :
    step s = .fault (.stopped r) := by
  have hmove : s.nextMove = .done (.fault (.stopped r)) := by
    unfold State.nextMove
    rw [hf]
  unfold step
  rw [hmove]

/-- From a state that stops, the agenda does not matter (42_channel_engines.md R322, 60_exceptions.md R602). -/
theorem step_withAgenda_of_not_running {s : State} (hs : ¬ s.running) (l m : List Action) :
    step (withAgenda s l) = step (withAgenda s m) := by
  cases hf : s.faults with
  | cons r rs => exact (step_of_fault (s := withAgenda s l) hf).trans (step_of_fault (s := withAgenda s m) hf).symm
  | nil =>
    cases hr : s.refused with
    | none => exact absurd ⟨hf, hr⟩ hs
    | some e =>
      exact (step_of_refused (s := withAgenda s l) hf hr).trans (step_of_refused (s := withAgenda s m) hf hr).symm

/-! ### Refusals -/

/-- Bytes that do not decode are refused. -/
theorem readInstr_of_bad {p : Port} {bs : List Byte} {e : DecodeError} (h : decode p bs = .bad e) (s : State) :
    readInstr p bs s = .done (.next (s.refuse (refusalOf e))) := by
  unfold readInstr
  rw [h]

/-- An address that names no word of the register pages decodes to no access (40_registers.md R202). -/
theorem decode_access_of_no_register {addr : Word} (h : decodeMmio addr = .unaligned ∨ decodeMmio addr = .outside)
    (v : Word) :
    ∃ e, decode .mmioWrite (encodeWrite addr v) = .bad e ∧ decode .mmioRead (encodeRead addr) = .bad e
      ∧ refusalOf e = .unmodelledAccess addr .w32 := by
  rw [decode_encodeWrite, decode_encodeRead, decodeWrite, decodeRead]
  obtain hd | hd := h
  · rw [hd]; exact ⟨.unaligned addr, rfl, rfl, rfl⟩
  · rw [hd]; exact ⟨.outside addr, rfl, rfl, rfl⟩

/-- A host register access that is not 32-bit, or at no word of the register pages, only sets the mark. -/
theorem move_host_of_no_register {w : Width} {addr : Word}
    (h : w ≠ .w32 ∨ decodeMmio addr = .unaligned ∨ decodeMmio addr = .outside) (v : Quad) (s : State) :
    s.move (.hostWrite w addr v) = .done (.next (s.refuse (.unmodelledAccess addr w)))
      ∧ s.move (.hostRead w addr) = .done (.next (s.refuse (.unmodelledAccess addr w))) := by
  cases w with
  | w8 | w16 | w64 | w128 => exact ⟨rfl, rfl⟩
  | w32 =>
    obtain ⟨e, hwrite, hread, he⟩ := decode_access_of_no_register (h.resolve_left fun hw => hw rfl) (v.setWidth 32)
    rw [← he]
    exact ⟨readInstr_of_bad hwrite s, readInstr_of_bad hread s⟩

/-- A generic-cell instruction on no generic cell is refused (log 28). -/
theorem exec_gen_of_not_generic {a : Word} (h : isGeneric a = false) (v : Word) (s : State) :
    exec (.swGen a v) s = .next (s.refuse (.unmodelledAccess a .w32))
      ∧ exec (.lwGen a) s = .next (s.refuse (.unmodelledAccess a .w32)) :=
  ⟨if_neg (by simp [h]), if_neg (by simp [h])⟩

/-- Settles O47, one kind of access at a time. -/
theorem refusedAccesses : Obligations.RefusedAccesses := by
  unfold Obligations.RefusedAccesses
  refine ⟨fun s va v p hp => ?dispatcher, fun s a v ha => exec_gen_of_not_generic ha v s,
    fun s rest w addr v hs h => ?host, fun s e => step_of_refused⟩
  case dispatcher =>
    obtain ⟨store, sign, hsel⟩ := dispatcher_of_mem_accesses hp
    exact ⟨fun hs ha => (exec_of_initialised hs hsel).trans (interpAccess_of_misaligned ha store sign v s),
      fun hs => exec_of_not_init hs hsel⟩
  case host =>
    obtain ⟨hwrite, hread⟩ := move_host_of_no_register h v (withAgenda s rest)
    rw [step_withAgenda_cons hs, step_withAgenda_cons hs, hwrite, hread]
    exact ⟨rfl, rfl⟩

/-! ### The interpreted lookup -/

/-- The 13 selectors name dispatchers (44_vtlb.md R495). -/
theorem exists_dispatcher_of_mem_validSelectors {sel : BitVec 5} (h : sel ∈ validSelectors) (va : Word) (v : Quad) :
    ∃ i, dispatcher? sel va v = some i := by
  simp only [validSelectors, List.mem_cons, List.not_mem_nil, or_false] at h
  obtain rfl | rfl | rfl | rfl | rfl | rfl | rfl | rfl | rfl | rfl | rfl | rfl | rfl := h <;> exact ⟨_, rfl⟩

/-- Settles O48: the call's bytes decode to the dispatcher of the selector, which is the interpreted access. A state
that stops does so for both. -/
theorem dispatchersEqualTheInterpretedLookup : Obligations.DispatchersEqualTheInterpretedLookup := by
  unfold Obligations.DispatchersEqualTheInterpretedLookup
  intro s rest store w sign va v hinit hsel
  by_cases hs : s.running
  · obtain ⟨i, hi⟩ := exists_dispatcher_of_mem_validSelectors hsel va v
    calc step (withAgenda s (.dispatch (selector store w sign) va v :: rest))
      _ = ((withAgenda s rest).move (.dispatch (selector store w sign) va v)).result := step_withAgenda_cons hs _ rest
      _ = exec i (withAgenda s rest) := congrArg Move.result (readInstr_of_decode (decode_dispatcher hi) _)
      _ = interpAccess store w sign va v (withAgenda s rest) :=
        exec_of_initialised (s := withAgenda s rest) hinit hi
      _ = step (withAgenda s (.interpret store w sign va v :: rest)) :=
        (step_withAgenda_cons hs (.interpret store w sign va v) rest).symm
  · exact step_withAgenda_of_not_running hs _ _

end Sys2Proof.Machine
end

section
/-!
PROOFS. O32 and O50: the interrupt line as a condition on the bits of STAT, and the completion event as a step.
-/

namespace Sys2Proof.Machine
open Sys2Proof.Claims

/-! ### The interrupt line -/

/-- Every number below 10 is a channel's (10_state.md R20). -/
theorem Ch.exists_num_eq {i : Nat} (h : i < 10) : ∃ c : Ch, c.num = i := by
  have hall : ∀ j : Fin 10, ∃ c ∈ Ch.all, c.num = j := by decide
  obtain ⟨c, -, hc⟩ := hall ⟨i, h⟩
  exact ⟨c, hc⟩

/-- The masked CIS bits are not all 0 exactly where some channel's CIS and CIM are 1 (60_exceptions.md R605). -/
theorem maskedCis_ne_zero_iff (stat : Word) :
    stat.extractLsb' 0 10 &&& stat.extractLsb' 16 10 ≠ 0 ↔
      ∃ c : Ch, stat.getLsbD c.num = true ∧ stat.getLsbD (16 + c.num) = true := by
  have hbit (i : Nat) (hi : i < 10) : (stat.extractLsb' 0 10 &&& stat.extractLsb' 16 10).getLsbD i =
      (stat.getLsbD i && stat.getLsbD (16 + i)) := by
    simp only [BitVec.getLsbD_and, BitVec.getLsbD_extractLsb', hi, decide_true, Bool.true_and, Nat.zero_add]
  constructor
  · intro hne
    by_contra hnone
    refine hne (BitVec.eq_of_getLsbD_eq fun i hi => ?_)
    obtain ⟨c, rfl⟩ := Ch.exists_num_eq hi
    refine (hbit _ hi).trans (Eq.trans ?_ BitVec.getLsbD_zero.symm)
    rw [Bool.and_eq_false_imp]
    exact fun hcis => Bool.not_eq_true _ ▸ fun hcim => hnone ⟨c, hcis, hcim⟩
  · rintro ⟨c, hcis, hcim⟩ hzero
    have hone := hbit c.num (Ch.num_lt c)
    rw [hzero, hcis, hcim] at hone
    exact Bool.false_ne_true (BitVec.getLsbD_zero.symm.trans hone)

/-- Settles O32: the first disjunct is the masked CIS bits' condition, the others are the line's own. -/
theorem interruptLine : Obligations.InterruptLine := by
  unfold Obligations.InterruptLine
  intro stat
  rw [← maskedCis_ne_zero_iff]
  simp only [dmacIntLine, Bool.or_eq_true, Bool.and_eq_true, bne_iff_ne, or_assoc]

/-! ### The completion event -/

/-- The event of a completing channel in scope of a runnable DMAC is its completion (60_exceptions.md R606). -/
theorem State.fireEvent_of_completing {s : State} {c : Ch} {d : Nat} (hc : c.inScope = true) (hr : runnable s.g)
    (hev : s.ev.get c = some d) (hp : (s.eng.get c).phase = .completing) : s.fireEvent c = s.complete c := by
  unfold State.fireEvent
  rw [hev]
  simp only []
  rw [if_pos hc, if_pos ⟨hp, s.dmacRunnable_iff.mpr hr⟩]

/-- Settles O50: the step is the completion, which is the four updates of the statement. -/
theorem completionEvent : Obligations.CompletionEvent := by
  unfold Obligations.CompletionEvent
  intro s rest c d hs hc hr hev hp
  calc step (withAgenda s (.fire c :: rest))
    _ = .next ((withAgenda s rest).fireEvent c) := step_withAgenda_cons hs (.fire c) rest
    _ = .next ((withAgenda s rest).complete c) :=
      congrArg _ (State.fireEvent_of_completing (s := withAgenda s rest) hc hr hev hp)
    _ = _ := rfl

end Sys2Proof.Machine
end

section
/-!
PROOFS. O15 and O17: what a step can make of STAT, each change with its cause: the conditions under which SIS and BEIS
are set, and the accesses that write STAT (60_exceptions.md R601, R604).
-/

namespace Sys2Proof.Machine
open Sys2Proof.Claims

/-! ### The causes -/

/-- SIF1 is about to fetch a REFS tag whose link would read past STADR (41_tag_walker.md R266, R295). -/
def StallsOnRefs (s : State) : Prop :=
  ∃ l t, runnable s.g ∧ (s.eng.get .sif1).phase = .tagFetch ∧ (s.eng.get .sif1).mode = .srcChain
    ∧ s.dmaAddr (s.chan.get .sif1).tadr false = some l
    ∧ decode (.srcTag .sif1) ((s.mem.get l.region).readBytes l.off 16) = .ok (.srcRefs .sif1 t) ∧ stalls .sif1 t s

/-- The engine of channel `c` is about to use an address that resolves to nothing, its tag's or that of a quadword of
its unit (41_tag_walker.md R286). -/
def MeetsBusError (s : State) (c : Ch) : Prop :=
  c.inScope = true ∧ runnable s.g
    ∧ (((s.eng.get c).phase = .tagFetch ∧ (s.eng.get c).mode = .srcChain
          ∧ s.dmaAddr (s.chan.get c).tadr false = none)
        ∨ ((s.eng.get c).phase = .transfer ∧ ∃ k s1, k < (s.eng.get c).rem ∧ s.moveN c k = (s1, true)
          ∧ s1.dmaAddr (s1.memAddr c) (writesMemory s1 c) = none))

/-- A 32-bit store at `va` is a write of STAT: its page is one that the DMAC handler serves at STAT's address
(40_registers.md R200, 44_vtlb.md R492). -/
def ReachesStat (s : State) (va : Word) : Prop :=
  ∃ pb, s.vtlbEntry (page s va) = .handler .dmac pb ∧ pb + BitVec.ofNat 32 (offset s va) = 0x1000E010

/-- The action is the host's write of `v` to STAT, by its address or by a store. -/
def WritesStat (s : State) (a : Action) (v : Quad) : Prop :=
  a = .hostWrite .w32 0x1000E010 v
    ∨ ∃ va, ReachesStat s va ∧ (a = .dispatch 0x14 va v ∨ ∃ sign, a = .interpret true .w32 sign va v)

/-- What a step that takes action `a` from `s` can make of STAT, and why: `StatEffect` with the causes that depend on
the state. -/
inductive StatCause (s : State) (a : Action) : Word → Prop where
  | kept : StatCause s a s.g.stat
  | hostWrite (v : Quad) (h : WritesStat s a v) : StatCause s a (statAfterWrite s.g.stat (v.setWidth 32))
  | completion (c : Ch) (ha : a = .fire c) : StatCause s a (withBit s.g.stat c.num true)
  | pump (c : Ch) (ha : a = .extPump c .setCis) (hc : c.inScope = false) : StatCause s a (withBit s.g.stat c.num true)
  | stall (n : Nat) (ha : a = .engine .sif1 n) (h : StallsOnRefs s) : StatCause s a (withBit s.g.stat statSis true)
  | busError (c : Ch) (n : Nat) (ha : a = .engine c n) (h : MeetsBusError s c) :
      StatCause s a (withBit s.g.stat statBeis true)
  | mfifoEmpty (ha : a = .mfifoEmpty) : StatCause s a (withBit s.g.stat statMeis true)
  | reset (ha : a = .reset) : StatCause s a 0

theorem StatCause.of_eq {s : State} {a : Action} {w : Word} (h : w = s.g.stat) : StatCause s a w := h ▸ .kept

/-! ### The host's writes of STAT -/

/-- A register write at an address changes STAT only if the address is STAT's (40_registers.md R200, R232). -/
theorem State.dmacWrite32_stat {s s' : State} {addr v : Word} (h : s.dmacWrite32 addr v = some s') :
    s'.g.stat = s.g.stat ∨ (addr = 0x1000E010 ∧ s'.g.stat = statAfterWrite s.g.stat v) := by
  obtain ⟨c, r, -, rfl⟩ | ⟨g, hg, rfl⟩ | ⟨a, -, rfl⟩ := State.dmacWrite32_some h
  · exact .inl (congrArg Globals.stat (s.chanWrite_g c r v))
  · rw [State.globalWrite_g]
    cases g with
    | stat => exact .inr ⟨decodeMmio_eq_iff.mp hg, rfl⟩
    | ctrl | pcr | sqwc | rbsr | rbor | stadr | enabler | enablew => exact .inl rfl
  · exact .inl rfl

/-- The write that an address decodes to is the DMAC's register write there. -/
theorem dmacWrite32_of_decodeWrite {addr v : Word} {i : Instr} {s s' : State} (hd : decodeWrite addr v = .ok i)
    (h : exec i s = .next s') : s.dmacWrite32 addr v = some s' := by
  unfold decodeWrite at hd
  split at hd <;> cases hd
  · next c r haddr =>
    cases (exec_swChan c r v s).symm.trans h
    rw [State.dmacWrite32, haddr]
  · next g haddr =>
    cases (exec_swGlobal g v s).symm.trans h
    rw [State.dmacWrite32, haddr]
  · next a haddr =>
    obtain ⟨-, hgeneric⟩ := isGeneric_of_decodeMmio haddr
    cases (exec_swGen hgeneric v s).symm.trans h
    rw [State.dmacWrite32, haddr]

/-- The read that an address decodes to returns a value, and changes nothing else (40_registers.md R201). -/
theorem stat_of_decodeRead {addr : Word} {i : Instr} {s s' : State} (hd : decodeRead addr = .ok i)
    (h : exec i s = .next s') : s'.g.stat = s.g.stat := by
  unfold decodeRead at hd
  split at hd <;> cases hd
  · next c r _ => cases (exec_lwChan c r s).symm.trans h; rfl
  · next g _ => cases (exec_lwGlobal g s).symm.trans h; rfl
  · obtain ⟨-, rfl⟩ | ⟨-, rfl⟩ := execLwGen_next h <;> rfl

theorem interpLoad_stat {w : Width} {sign : Bool} {va : Word} {s s' : State} (h : interpLoad w sign va s = .next s') :
    s'.g.stat = s.g.stat := by
  obtain ⟨e, -, rfl⟩ | ⟨r, rfl⟩ := interpLoad_next h <;> rfl

/-- Only a page's own entry names the DMAC handler. -/
theorem State.vtlbEntry_of_resolve_dmac {s : State} {w : Width} {va pa : Word}
    (h : s.resolve w va = .handler .dmac pa) :
    ∃ pb, s.vtlbEntry (page s va) = .handler .dmac pb ∧ pb + BitVec.ofNat 32 (offset s va) = pa := by
  obtain hlookup | ⟨hdefault, -⟩ := State.resolve_handler.mp h
  · cases hentry : s.vtlbEntry (page s va) with
    | direct r base => rw [State.vtlbLookup_of_direct hentry] at hlookup; cases hlookup
    | handler k pb => rw [State.vtlbLookup_of_handler hentry] at hlookup; cases hlookup; exact ⟨pb, rfl, rfl⟩
  · cases hdefault

/-- A store changes STAT only if it is 32-bit and reaches STAT. -/
theorem interpStore_stat {w : Width} {va : Word} {v : Quad} {s s' : State} (h : interpStore w va v s = .next s') :
    s'.g.stat = s.g.stat ∨
      (w = .w32 ∧ ReachesStat s va ∧ s'.g.stat = statAfterWrite s.g.stat (v.setWidth 32)) := by
  obtain ⟨r, off, -, rfl⟩ | ⟨pa, hpa, hw, hwrite⟩ | ⟨k, pa, -, -, rfl⟩ | ⟨r, rfl⟩ := interpStore_next h
  · exact .inl rfl
  · obtain hkept | ⟨rfl, hstat⟩ := State.dmacWrite32_stat hwrite
    · exact .inl hkept
    · exact .inr ⟨hw, State.vtlbEntry_of_resolve_dmac hpa, hstat⟩
  · exact .inl rfl
  · exact .inl rfl

/-- The 13 selectors are those of the loads and of the five stores (44_vtlb.md R490, R495). -/
theorem selector_of_mem_validSelectors {sel : BitVec 5} (h : sel ∈ validSelectors) :
    (∃ w sign, sel = selector false w sign) ∨ ∃ w, sel = selector true w false := by
  simp only [validSelectors, List.mem_cons, List.not_mem_nil, or_false] at h
  obtain rfl | rfl | rfl | rfl | rfl | rfl | rfl | rfl | rfl | rfl | rfl | rfl | rfl := h
  exacts [.inl ⟨.w8, false, rfl⟩, .inl ⟨.w8, true, rfl⟩, .inl ⟨.w16, false, rfl⟩, .inl ⟨.w16, true, rfl⟩,
    .inl ⟨.w32, false, rfl⟩, .inl ⟨.w32, true, rfl⟩, .inl ⟨.w64, false, rfl⟩, .inl ⟨.w128, false, rfl⟩,
    .inr ⟨.w8, rfl⟩, .inr ⟨.w16, rfl⟩, .inr ⟨.w32, rfl⟩, .inr ⟨.w64, rfl⟩, .inr ⟨.w128, rfl⟩]

/-- A dispatcher runs its interpreted access, or is refused because it has not been generated (44_vtlb.md R507). -/
theorem interpAccess_of_exec_dispatcher {store : Bool} {w : Width} {sign : Bool} {va : Word} {v : Quad} {i : Instr}
    {s s' : State} (hi : dispatcher? (selector store w sign) va v = some i) (h : exec i s = .next s') :
    interpAccess store w sign va v s = .next s' ∨ s' = s.refuse (.dispatchBeforeInit va w) := by
  rw [exec_of_dispatcher hi] at h
  split at h
  · exact .inl h
  · cases h; exact .inr rfl

/-- A dispatcher call changes STAT only if it is STORE.32 and reaches STAT. -/
theorem dispatcher_stat {sel : BitVec 5} {va : Word} {v : Quad} {i : Instr} {s s' : State}
    (hi : dispatcher? sel va v = some i) (h : exec i s = .next s') :
    s'.g.stat = s.g.stat ∨
      (sel = 0x14 ∧ ReachesStat s va ∧ s'.g.stat = statAfterWrite s.g.stat (v.setWidth 32)) := by
  obtain ⟨w, sign, rfl⟩ | ⟨w, rfl⟩ := selector_of_mem_validSelectors (mem_validSelectors_of_dispatcher hi)
  · obtain hload | rfl := interpAccess_of_exec_dispatcher hi h
    · exact .inl (interpLoad_stat hload)
    · exact .inl rfl
  · obtain hstore | rfl := interpAccess_of_exec_dispatcher hi h
    · obtain hkept | ⟨rfl, hreaches⟩ := interpStore_stat hstore
      · exact .inl hkept
      · exact .inr ⟨rfl, hreaches⟩
    · exact .inl rfl

/-! ### The engines -/

/-- The eight source tags are those of the eight IDs (30_encoding.md R151). -/
theorem mem_srcTags_of_decode {c : SrcCh} {bs : List Byte} {i : Instr} (hl : bs.length = 16)
    (h : decode (.srcTag c) bs = .ok i) : ∃ t, i ∈ srcTags c t := by
  obtain ⟨q, rfl⟩ := exists_quad_leBytes hl
  rw [decode_srcTag_leBytes] at h
  cases h
  refine ⟨Tag.ofQuad q, ?_⟩
  obtain hid | hid | hid | hid | hid | hid | hid | hid := tagId_cases (tagId q) <;> rw [hid] <;>
    simp [srcTags, Instr.srcTag]

/-- A source tag leaves STAT, unless it is a REFS on which SIF1 stalls (41_tag_walker.md R266). -/
theorem stat_of_srcTag {c : SrcCh} {t : Tag} {i : Instr} {s s' : State} (hi : i ∈ srcTags c t)
    (h : exec i s = .next s') :
    s'.g.stat = s.g.stat ∨ (i = .srcRefs c t ∧ stalls c t s ∧ s'.g.stat = withBit s.g.stat statSis true) := by
  by_cases hstall : i = .srcRefs c t ∧ stalls c t s
  · obtain ⟨rfl, hstalls⟩ := hstall
    rw [exec_srcRefs_of_stalls hstalls] at h
    cases h
    exact .inr ⟨rfl, hstalls, rfl⟩
  · obtain ⟨id, rule, hrule, -, hexec⟩ := exec_of_mem_srcTags hi hstall
    rw [hexec] at h
    cases h
    obtain ⟨hg, -⟩ := s.takeSrcTag_frame c t hrule
    exact .inl (congrArg Globals.stat hg)

theorem inScope_of_srcCh (c : SrcCh) : c.toCh.inScope = true := by cases c <;> rfl

/-- Only a channel in scope has a peripheral that its engine moves quadwords to or from (00_scope.md R4). -/
theorem inScope_of_bound {s : State} {c : Ch} (h : s.bound c ≠ 0) : c.inScope = true := by
  cases c with
  | vif0 | vif1 | gif => exact absurd (State.bound_eq_zero (s := s) id) h
  | ipu0 | ipu1 | sif0 | sif1 | sif2 | spr0 | spr1 => rfl

/-- A step in phase Transfer leaves STAT, unless a quadword's address resolves to nothing (41_tag_walker.md R286). -/
theorem State.transferPhase_statCause {s : State} {c : Ch} (hr : runnable s.g) (hp : (s.eng.get c).phase = .transfer)
    (n : Nat) : StatCause s (.engine c n) (s.transferPhase c n).g.stat := by
  unfold State.transferPhase
  split
  · exact .of_eq (by rw [State.endUnit_g])
  · split
    · split <;> exact .kept
    · next hbound =>
      generalize hm : chunk n (s.bound c) = m
      rcases hmoves : s.moveN c m with ⟨t, moved⟩
      cases moved with
      | false =>
        obtain ⟨k, s1, hk, hmoved, hnone, rfl⟩ := State.moveN_false hmoves
        have hc := inScope_of_bound hbound
        have hstat : (s1.busError c).g.stat = withBit s.g.stat statBeis true := by rw [← State.moveN_g hmoved]; rfl
        have hrem : m ≤ (s.eng.get c).rem := hm ▸ (chunk_le hbound).trans (s.bound_le_rem c)
        rw [State.transferStep_of_bus_error hmoves, hstat]
        exact .busError c n rfl
          ⟨hc, hr, .inr ⟨hp, k, s1, hk.trans_le hrem, hmoved, (State.moveOne_eq_none_iff hc).mp hnone⟩⟩
      | true =>
        obtain ⟨-, hg⟩ := State.transferStep_of_moved hmoves
        exact .of_eq (by rw [hg, State.stallSrcUpdate_stat, State.moveN_g hmoves])

/-! ### Every step -/

theorem State.fireEvent_statCause (s : State) (c : Ch) : StatCause s (.fire c) (s.fireEvent c).g.stat := by
  obtain h | ⟨h, -⟩ | ⟨h, -⟩ := s.fireEvent_cases c <;> rw [h]
  · exact .kept
  · exact .completion c rfl
  · exact .kept

theorem State.extPump_statCause (s : State) (c : Ch) (op : ExtOp) :
    StatCause s (.extPump c op) (s.extPump c op).g.stat := by
  unfold State.extPump
  split
  · next hg =>
    obtain ⟨hc, -⟩ := hg
    split
    · exact .kept
    · exact .kept
    · exact .pump c rfl hc
    · exact .kept
  · exact .kept

/-- What every form of a step makes of STAT, and why. -/
theorem StepForm.statCause {s s' : State} {a : Action} (hs : StepForm s a s') : StatCause s a s'.g.stat := by
  have hkept {t : State} (hg : t.g = s.g) : StatCause s a t.g.stat := .of_eq (congrArg Globals.stat hg)
  cases hs with
  | host _ i _ ha he =>
    obtain ⟨x, v, rfl, -, hd⟩ | ⟨x, rfl, -, hd⟩ | ⟨sel, va, v, rfl, -, hd⟩ := ha
    · rw [decode_encodeWrite] at hd
      obtain hstat | ⟨rfl, hstat⟩ := State.dmacWrite32_stat (dmacWrite32_of_decodeWrite hd he)
      · exact .of_eq hstat
      · rw [hstat]; exact .hostWrite v (.inl rfl)
    · rw [decode_encodeRead] at hd
      exact .of_eq (stat_of_decodeRead hd he)
    · rw [decode_encodeDispatch] at hd
      split at hd <;> cases hd
      next hi =>
        obtain hstat | ⟨rfl, hreaches, hstat⟩ := dispatcher_stat hi he
        · exact .of_eq hstat
        · rw [hstat]; exact .hostWrite v (.inr ⟨va, hreaches, .inl rfl⟩)
  | interpLoad _ _ _ _ _ he => exact .of_eq (interpLoad_stat he)
  | interpStore w sign va v _ he =>
    obtain hstat | ⟨rfl, hreaches, hstat⟩ := interpStore_stat he
    · exact .of_eq hstat
    · rw [hstat]; exact .hostWrite v (.inr ⟨va, hreaches, .inr ⟨sign, rfl⟩⟩)
  | tagBusError c n hr hp hm hl =>
    exact .busError _ n rfl ⟨inScope_of_srcCh c, s.dmacRunnable_iff.mp hr, .inl ⟨hp, hm, hl⟩⟩
  | srcTag c n l i _ hr hp hm hl _ _ he hd =>
    obtain ⟨t, hi⟩ := mem_srcTags_of_decode (Memory.length_readBytes ..) hd
    obtain hstat | ⟨rfl, hstalls, hstat⟩ := stat_of_srcTag hi he
    · exact .of_eq hstat
    · obtain rfl : c = .sif1 := hstalls.1
      rw [hstat]
      exact .stall n rfl ⟨l, t, s.dmacRunnable_iff.mp hr, hp, hm, hl, hd, hstalls⟩
  | dstTagSif0 _ _ _ _ _ _ _ hi he =>
    exact .of_eq ((hi ▸ exec_effect he).stat_of_dstTag.trans (by rw [State.takeSif_g]))
  | dstTagSpr0 _ _ _ _ _ _ hi he => exact .of_eq (hi ▸ exec_effect he).stat_of_dstTag
  | transfer c n hr hp => exact State.transferPhase_statCause (s.dmacRunnable_iff.mp hr) hp n
  | fire c => exact s.fireEvent_statCause c
  | extPump c op => exact s.extPump_statCause c op
  | mfifoEmpty => exact .mfifoEmpty rfl
  | reset => exact .reset rfl
  | iopTagSif0 _ _ _ _ _ _ _ _ he | iopTagSif1 _ _ _ _ _ _ _ _ he => cases he; exact hkept (by simp)
  | held | refused | refetch | wake | ipuRequest => exact .kept
  | vtlbInit | iopPushData | iopPopData | iopPushJunk | iopPopJunk | iopEnd | fireIop | iopStart | ipuPush | ipuPop
  | extSchedule | mmuMap | iopCpuStore => exact hkept (by simp)

/-- The moves of a step do not depend on the model's own fields. -/
theorem MeetsBusError.of_withEnv {s : State} {e : Env} {c : Ch} (h : MeetsBusError (s.withEnv e) c) :
    MeetsBusError s c := by
  obtain ⟨hc, hr, hfetch | ⟨hp, k, s1, hk, hmoved, hnone⟩⟩ := h
  · exact ⟨hc, hr, .inl hfetch⟩
  · rw [State.moveN_withEnv, Prod.mk.injEq] at hmoved
    obtain ⟨rfl, htrue⟩ := hmoved
    exact ⟨hc, hr, .inr ⟨hp, k, (s.moveN c k).1, hk, Prod.ext rfl htrue, hnone⟩⟩

/-- No cause depends on the model's own fields. -/
theorem StatCause.of_withEnv {s : State} {e : Env} {a : Action} {v : Word} (h : StatCause (s.withEnv e) a v) :
    StatCause s a v := by
  cases h with
  | kept => exact .kept
  | hostWrite v h => exact .hostWrite v h
  | completion c ha => exact .completion c ha
  | pump c ha hc => exact .pump c ha hc
  | stall n ha h => exact .stall n ha h
  | busError c n ha h => exact .busError c n ha h.of_withEnv
  | mfifoEmpty ha => exact .mfifoEmpty ha
  | reset ha => exact .reset ha

theorem statCause_of_step {s s' : State} (h : step s = .next s') : StatCause s s.head s'.g.stat := by
  obtain ⟨e, hform⟩ := step_form_withEnv h
  exact StatCause.of_withEnv (e := e) hform.statCause

/-! ### The obligations -/

/-- Settles O15: of the causes only those the statement names raise a bit, each its own. -/
theorem statusBitCauses : Obligations.StatusBitCauses := by
  unfold Obligations.StatusBitCauses
  intro s s' b hs hb h0 h1
  have hcause := statCause_of_step hs
  generalize s'.g.stat = v at hcause h1
  cases hcause with
  | kept => rw [h0] at h1; cases h1
  | hostWrite v => rw [statAfterWrite_not_raised _ hb h0] at h1; cases h1
  | completion c ha => exact .inl ⟨c, eq_of_withBit_raised h0 h1, .inl ha⟩
  | pump c ha hc => exact .inl ⟨c, eq_of_withBit_raised h0 h1, .inr ⟨hc, ha⟩⟩
  | stall n ha h =>
    obtain ⟨l, t, hstalls⟩ := h
    exact .inr (.inl ⟨eq_of_withBit_raised h0 h1, n, l, t, ha, hstalls⟩)
  | mfifoEmpty ha => exact .inr (.inr (.inl ⟨eq_of_withBit_raised h0 h1, ha⟩))
  | busError c n ha h => exact .inr (.inr (.inr ⟨eq_of_withBit_raised h0 h1, c, n, ha, h⟩))
  | reset => exact absurd (BitVec.getLsbD_zero.symm.trans h1) Bool.false_ne_true

/-- `hwDmacIrq` clears no bit (60_exceptions.md R604). -/
theorem withBit_not_cleared {v : Word} (i : Nat) {b : Nat} (h : v.getLsbD b = true) :
    (withBit v i true).getLsbD b = true := by
  rw [withBit, if_pos rfl, BitVec.getLsbD_or, h, Bool.true_or]

/-- A host write clears a bit of the low half only with a 1 (40_registers.md R232). -/
theorem getLsbD_of_statAfterWrite_cleared {stat : Word} {v : Quad} {b : Nat} (hb : b < 16) (h1 : stat.getLsbD b = true)
    (h0 : (statAfterWrite stat (v.setWidth 32)).getLsbD b = false) : v.getLsbD b = true := by
  have hb32 : b < 32 := by omega
  simpa [getLsbD_statAfterWrite _ _ hb32, hb, hb32, h1, -BitVec.getLsbD_eq_getElem] using h0

/-- Settles O17: of the causes only the host's write and the reset clear a bit. -/
theorem statusBitsAreSticky : Obligations.StatusBitsAreSticky := by
  unfold Obligations.StatusBitsAreSticky
  intro s s' b hs hb h1 h0
  have hcause := statCause_of_step hs
  generalize s'.g.stat = v at hcause h0
  cases hcause with
  | kept => rw [h1] at h0; cases h0
  | hostWrite v h =>
    refine .inl ⟨v, getLsbD_of_statAfterWrite_cleared hb h1 h0, ?_⟩
    obtain haddr | ⟨va, ⟨pb, hentry, hpa⟩, hstore⟩ := h
    · exact .inl haddr
    · exact .inr ⟨va, pb, hentry, hpa, hstore⟩
  | completion | pump | stall | busError | mfifoEmpty => rw [withBit_not_cleared _ h1] at h0; cases h0
  | reset ha => exact .inr ha

end Sys2Proof.Machine
end

section
/-!
PROOFS. O9: what the reset action leads to from a running state.
-/

namespace Sys2Proof.Machine
open Sys2Proof.Claims

/-- Reset keeps the model's own fields, so the agenda left over by the action stays (70_reset_and_hazards.md R701,
log 20). -/
theorem State.resetBlock_withAgenda (s : State) (rest : List Action) :
    (withAgenda s rest).resetBlock = withAgenda s.resetBlock rest := rfl

/-- Settles O9: a running state takes the head of its agenda, and the move of `.reset` is `State.resetBlock`. -/
theorem resetActionRestoresTheBlock : Obligations.ResetActionRestoresTheBlock := by
  unfold Obligations.ResetActionRestoresTheBlock
  intro s rest hs
  calc step (withAgenda s (.reset :: rest))
    _ = .next (withAgenda s rest).resetBlock := step_withAgenda_cons hs .reset rest
    _ = .next (withAgenda s.resetBlock rest) := congrArg _ (s.resetBlock_withAgenda rest)

end Sys2Proof.Machine
end
